-- ==== Sys2Proof/Word.lean ====
section
/-! DEFINITION. The word types of SDCS: bytes of the two memories, 32-bit control registers, 64-bit operation words
(R5, R6: all values are unsigned, bit 0 is the least significant bit). -/

namespace Sys2Proof

/-- One byte of `BUF` or `HOSTMEM` (R40: every memory access is a single-byte access). -/
abbrev Byte := BitVec 8

/-- A control register (R5: `REG_WIDTH` is 32). -/
abbrev Word := BitVec 32

/-- An operation word (R5, R60: `OPWORD_WIDTH` is 64). -/
abbrev OpWord := BitVec 64

end Sys2Proof
end

