-- ==== Sys2Proof/Config.lean ====
section
/-! DEFINITION. The names of slots and control registers; what one chip fixes and what the spec leaves open: the constants
of R5, the three OPEN parameters of R5, the choices the environment agents of R8 may make, and the two free values of the
model (constants with no body). Every choice an agent makes is plain data of type `AgentStep`. -/

namespace Sys2Proof

/-! ## Names of slots and registers (R12, R35) -/

/-- The slot of a command: 0 the request's `main` command, 1 its `stop` command (R12). -/
inductive Slot where
  | main | stop
  deriving DecidableEq, Repr, Inhabited

/-- The nine registers of a command descriptor bank (R12). -/
inductive BankReg where
  | ctl | arg | blk | buf | err | resp0 | resp1 | resp2 | resp3
  deriving DecidableEq, Repr, Inhabited

/-- Every defined control register (R35). -/
inductive Reg where
  | bank (s : Slot) (r : BankReg)
  | seq | pend | evt | evtst | ien | rawsta
  | hwresp (i : Fin 4)
  | cmdreg | cmdargreg | dlen | dblk | dctl | ctl | codecst | wcnt | spin | xseq
  | dmactl | dmalen | buscfg
  deriving DecidableEq, Repr, Inhabited

/-- The access RDREG and WRREG have to a register (R35). -/
inductive HostAccess where
  /-- Read and write. -/
  | rw
  /-- Read only. -/
  | ro
  /-- Read, and write one to clear. -/
  | w1c
  deriving DecidableEq, Repr

/-! ## The constants of R5 -/

namespace Config

/-- `CRC7_TAPS` (R5): bits 3 and 0. -/
def crc7Taps : BitVec 7 := 0x09#7

/-- `CRC16_TAPS` (R5): bits 12, 5 and 0. -/
def crc16Taps : BitVec 16 := 0x1021#16

/-- `STEP_MAX_BITS` (R5). -/
def stepMaxBits : Nat := 8

/-- `TRAILER_BYTES` (R5). -/
def trailerBytes : Nat := 8

/-- `S4_CEILING` (R5, R91): 512 bytes, inclusive. -/
def s4Ceiling : Nat := 512

/-- `S4_INIT` (R5, R87). -/
def s4Init : BitVec 16 := 0x0000#16

/-- `EVT_TIMEOUT` (R5): five ticks. -/
def evtTimeout : Nat := 5

/-- `MIN_SRC_CLOCK` (R5, R161), in Hz. -/
def minSrcClock : Nat := 400000

/-- `DIV_MIN` (R5, R162). -/
def divMin : Nat := 2

/-- `DIV_MAX` (R5, R162). -/
def divMax : Nat := 257

/-- `DIV_BIAS` (R5, R162). -/
def divBias : Nat := 2

/-- What an address that a memory does not list reads as. DESIGN CHOICE, unsafe (log entry 2): R36 leaves every byte of
`BUF` unspecified after reset and R201 says that none is 0 by promise. -/
def memFill : Byte := 0x00#8

end Config

/-- The OPEN parameters of R5, fixed for one chip and written by no step (log entry 3). Each is stored as its distance
from the least value the constraint of R5 allows, so that every value of this type meets the constraints. -/
structure Params where
  /-- `BOUNCE_CAP - 520`. -/
  bounceExtra : Nat
  /-- `DRAIN_SPIN_MAX - 1`; `DRAIN_SPIN_MAX` is positive and below 2^32. -/
  drainSpinPred : Fin 4294967295
  /-- `DMA_ALIGN` is 4 times 2 to this power. -/
  dmaAlignLog : Nat
  /-- Where `BUF` begins in the DMA agent's address space, in units of `DMA_ALIGN` (R42 (b), R45). -/
  bufBaseUnits : Nat
  deriving DecidableEq, Repr, Inhabited

/-! ## The choices of the environment (R8, R34, R185, R153, R160, R200) -/

/-- What one BUS step may do (R185 (a) to (e)). A BUS step is a list of these. -/
inductive BusAct where
  /-- (a) set those of `RAWSTA` bits 0 to 6 and 9 that the mask names. -/
  | raiseFlags (mask : Word)
  /-- (b) set or clear `RAWSTA.TXRUN` and `RAWSTA.RXRUN`. -/
  | setRunning (tx rx : Bool)
  /-- (c) write any value to one of `HWRESP0..3`. -/
  | writeResp (i : Fin 4) (v : Word)
  /-- (d) clear `CMDREG.START`. -/
  | clearStart
  /-- (e) while `CTL.CTLEN = 0` only: clear those bits of `RAWSTA` that the mask names. -/
  | clearRaw (mask : Word)
  deriving DecidableEq, Repr, Inhabited

/-- The bus power modes of `BusConfig` (R160). -/
inductive Power where
  | off | up | on
  deriving DecidableEq, Repr, Inhabited

/-- The argument of `apply` (R160): the source clock that the clock-source query returns and the requested target
clock, both in Hz, the bus width in lines and the power mode. -/
structure BusConfig where
  source : Nat
  target : Nat
  lines : Nat
  power : Power
  deriving DecidableEq, Repr, Inhabited

/-- The values a reset leaves unspecified (R36, R201), drawn by the environment when it resets the block. -/
structure ResetDraw where
  hwresp0 : Word
  hwresp1 : Word
  hwresp2 : Word
  hwresp3 : Word
  /-- `draw(14)` of `BUSCFG`, used only when no `apply` has run (R36). -/
  buscfg : BitVec 14
  /-- The bytes of `BUF` from offset 0 up. -/
  buf : List Byte
  deriving DecidableEq, Repr, Inhabited

/-- One step of the DMA agent that falls inside a multi-byte copy (R43): the index in `BUF` and the card's byte (R153). -/
abbrev DmaMove := Nat × Byte

/-- One step of one agent (R8). Which agent steps next, and what an environment agent chooses, is plain data. -/
inductive AgentStep where
  /-- A `HOST_i` presents an operation word on the operation port (R50, R186). -/
  | host (w : OpWord)
  /-- The port takes the `k`-th of the held words (R50: which one is not fixed). -/
  | accept (k : Nat)
  /-- A held host withdraws its word (vector V4.9). -/
  | withdraw (k : Nat)
  /-- ENGINE performs its next micro-step (R136). -/
  | engine
  /-- ISR performs its step (R176). -/
  | isr
  /-- BUS takes liberties, in this order, in one atomic step (R185). -/
  | bus (acts : List BusAct)
  /-- DMA moves one byte at index `i` of `BUF`; `v` is the card's byte of a `FromCard` transfer (R153). -/
  | dma (i : Nat) (v : Byte)
  /-- The schedule names the DMA steps that will fall inside the next multi-byte copy (R43): the `k`-th list those right before
  the `k`-th access of the copy to `BUF`. A choice made ahead, and no step of the hardware (log entry 23). -/
  | duringCopy (gaps : List (List DmaMove))
  /-- TICK counts one time unit (R183). -/
  | tick
  /-- The Bus Configuration State Machine applies a configuration (R160). -/
  | apply (c : BusConfig)
  /-- A host writes one byte of its own memory `HOSTMEM` (R10). -/
  | hostWrite (a : BitVec 32) (v : Byte)
  /-- The level of the input `card_present` becomes `b` (R34). -/
  | card (b : Bool)
  /-- The block is reset (R200). -/
  | reset (d : ResetDraw)
  deriving DecidableEq, Repr, Inhabited

namespace Config

/-- The OPEN parameters of the chip that `State.reset` describes. A free value: it has no body, so no proof can use a
value of it (log entry 3). -/
opaque params : Params

/-- Which agent steps next, and with what choice, when `State.script` names none: R8 lets any enabled agent take the next
step. A free value applied to the counter `State.freeCount` (log entry 4). -/
opaque freeAgent : Nat → AgentStep

end Config

end Sys2Proof
end

