-- ==== Sys2Proof/Syntax.lean ====
section
/-! DEFINITION. The ten operations of `30_encoding.md` R65 as syntax, with the operand fields of R68. -/

namespace Sys2Proof

/-- The ten operations (R65), one constructor for each row of the opcode table. -/
inductive Instr where
  /-- CRC7 (R82), format K7. -/
  | crc7 (nbits : BitVec 4) (data : Byte) (crc : BitVec 7)
  /-- CRC16 (R83), format K16. -/
  | crc16 (nbits : BitVec 4) (data : Byte) (crc : BitVec 16)
  /-- CRC16S4 (R90), format B. -/
  | crc16s4 (len : BitVec 16) (addr : BitVec 32)
  /-- RDREG (R100), format R. -/
  | rdreg (reg : BitVec 8)
  /-- WRREG (R101), format R. -/
  | wrreg (reg : BitVec 8) (value : Word)
  /-- IRQEN (R102), format N. -/
  | irqen (b : Bool)
  /-- DETECT (R103), format N. -/
  | detect
  /-- SEND (R111), format N. -/
  | send (slot : Slot)
  /-- EXEC (R130), format N. -/
  | exec
  /-- RECOVER (R140), format N. -/
  | recover
  deriving DecidableEq, Repr

end Sys2Proof
end

