-- ==== Sys2Proof/Decode.lean ====
section
/-! DEFINITION. The decoder of `30_encoding.md` R65 to R69, total on every 64-bit word, the encoder written from the
format tables R61 to R64, the register number map of `10_state.md` R35 with the host's access to each register, and the
pseudo-operations of R73. -/

namespace Sys2Proof

/-- The rows of R65. -/
inductive Mnemonic where
  | crc7 | crc16 | crc16s4 | rdreg | wrreg | irqen | detect | send | exec | recover
  deriving DecidableEq, Repr

/-- A row of R65: a word `w` spells the row's operation exactly when `w &&& mask = pattern`. -/
structure Row where
  mnemonic : Mnemonic
  pattern : OpWord
  mask : OpWord
  deriving DecidableEq, Repr

/-- The opcode map R65, in the table's order. -/
def rows : List Row :=
  [ ⟨.crc7,    0x0100000000000000#64, 0xFFFFFFFFF000FF80#64⟩,
    ⟨.crc16,   0x0200000000000000#64, 0xFFFFFFFFF0000000#64⟩,
    ⟨.crc16s4, 0x0300000000000000#64, 0xFFFF000000000000#64⟩,
    ⟨.rdreg,   0x1000000000000000#64, 0xFFFFFF00FFFFFFFF#64⟩,
    ⟨.wrreg,   0x1100000000000000#64, 0xFFFFFF0000000000#64⟩,
    ⟨.irqen,   0x1200000000000000#64, 0xFFFFFFFFFFFFFFFE#64⟩,
    ⟨.detect,  0x1300000000000000#64, 0xFFFFFFFFFFFFFFFF#64⟩,
    ⟨.send,    0x2000000000000000#64, 0xFFFFFFFFFFFFFFFE#64⟩,
    ⟨.exec,    0x2100000000000000#64, 0xFFFFFFFFFFFFFFFF#64⟩,
    ⟨.recover, 0x2200000000000000#64, 0xFFFFFFFFFFFFFFFF#64⟩ ]

/-- The word `w` spells the operation of row `r` (R65). -/
def Row.spells (r : Row) (w : OpWord) : Bool := w &&& r.mask == r.pattern

/-- The slot that a one-bit operand names (R64: 0 main, 1 stop). -/
def slotOfBit (b : Bool) : Slot := if b then .stop else .main

/-- The one-bit operand that names a slot (R64). -/
def bitOfSlot : Slot → Bool
  | .main => false
  | .stop => true

/-- Operand assembly (R68): every field is a contiguous bit field taken as an unsigned integer. -/
def assemble (m : Mnemonic) (w : OpWord) : Instr :=
  match m with
  | .crc7    => .crc7 (w.extractLsb' 24 4) (w.extractLsb' 16 8) (w.extractLsb' 0 7)
  | .crc16   => .crc16 (w.extractLsb' 24 4) (w.extractLsb' 16 8) (w.extractLsb' 0 16)
  | .crc16s4 => .crc16s4 (w.extractLsb' 32 16) (w.extractLsb' 0 32)
  | .rdreg   => .rdreg (w.extractLsb' 32 8)
  | .wrreg   => .wrreg (w.extractLsb' 32 8) (w.extractLsb' 0 32)
  | .irqen   => .irqen (w.getLsbD 0)
  | .detect  => .detect
  | .send    => .send (slotOfBit (w.getLsbD 0))
  | .exec    => .exec
  | .recover => .recover

/-- Why a word spells no operation (R69 (a)); both answers are port code `IllegalOp`. -/
inductive DecodeError where
  /-- The `op` byte is none of the ten values of R65. -/
  | undefinedOp
  /-- The `op` byte is one of the ten values and a `zero` field is not zero. -/
  | nonZeroField
  deriving DecidableEq, Repr

/-- The `op` byte of a word (R60: bits 63:56). -/
def opOf (w : OpWord) : Byte := w.extractLsb' 56 8

/-- Decoding (R67): the row whose mask and pattern the word meets, with its fields; else a rejection by name. -/
def decode (w : OpWord) : Except DecodeError Instr :=
  match rows.find? (fun r => r.spells w) with
  | some r => .ok (assemble r.mnemonic w)
  | none =>
    if rows.any (fun r => opOf r.pattern == opOf w) then .error .nonZeroField
    else .error .undefinedOp

/-- The instruction the decoder reads from a word of the opcode table: the bits numbered as the table numbers them, the
bits above `nbits` zero (an operation word is one 64-bit number, R60, so there is no byte order to apply). -/
def decodeTableWord (nbits w : Nat) : Option Instr :=
  match decode (BitVec.ofNat 64 (w % 2 ^ nbits)) with
  | .ok i => some i
  | .error _ => none

/-! ## The encoder, from the format tables R61 to R64 -/

/-- Format K7 (R61): `op`, `zero` 55:28, `nbits` 27:24, `data` 23:16, `zero` 15:7, `crc` 6:0. -/
def formatK7 (op : Byte) (nbits : BitVec 4) (data : Byte) (crc : BitVec 7) : OpWord :=
  op ++ 0#28 ++ nbits ++ data ++ 0#9 ++ crc

/-- Format K16 (R62): `op`, `zero` 55:28, `nbits` 27:24, `data` 23:16, `crc` 15:0. -/
def formatK16 (op : Byte) (nbits : BitVec 4) (data : Byte) (crc : BitVec 16) : OpWord :=
  op ++ 0#28 ++ nbits ++ data ++ crc

/-- Format B (R63): `op`, `zero` 55:48, `len` 47:32, `addr` 31:0. -/
def formatB (op : Byte) (len : BitVec 16) (addr : BitVec 32) : OpWord :=
  op ++ 0#8 ++ len ++ addr

/-- Format R (R64): `op`, `zero` 55:40, `reg` 39:32, `value` 31:0. -/
def formatR (op : Byte) (reg : BitVec 8) (value : Word) : OpWord :=
  op ++ 0#16 ++ reg ++ value

/-- Format N (R64): `op`, `zero` 55:1, `b` 0. -/
def formatN (op : Byte) (b : Bool) : OpWord :=
  op ++ 0#55 ++ BitVec.ofBool b

/-- The operation word of an instruction (R61 to R65). -/
def encode : Instr → OpWord
  | .crc7 nbits data crc  => formatK7 0x01#8 nbits data crc
  | .crc16 nbits data crc => formatK16 0x02#8 nbits data crc
  | .crc16s4 len addr     => formatB 0x03#8 len addr
  | .rdreg reg            => formatR 0x10#8 reg 0#32
  | .wrreg reg value      => formatR 0x11#8 reg value
  | .irqen b              => formatN 0x12#8 b
  | .detect               => formatN 0x13#8 false
  | .send slot            => formatN 0x20#8 (bitOfSlot slot)
  | .exec                 => formatN 0x21#8 false
  | .recover              => formatN 0x22#8 false

/-- The row of an instruction. -/
def Instr.mnemonic : Instr → Mnemonic
  | .crc7 _ _ _  => .crc7
  | .crc16 _ _ _ => .crc16
  | .crc16s4 _ _ => .crc16s4
  | .rdreg _     => .rdreg
  | .wrreg _ _   => .wrreg
  | .irqen _     => .irqen
  | .detect      => .detect
  | .send _      => .send
  | .exec        => .exec
  | .recover     => .recover

/-! ## Register numbers (R35, R37) and the host's access (R35, R101) -/

/-- The registers of a descriptor bank by the low digit of their number (R12). -/
def bankRegOfNum : Nat → Option BankReg
  | 0 => some .ctl
  | 1 => some .arg
  | 2 => some .blk
  | 3 => some .buf
  | 4 => some .err
  | 5 => some .resp0
  | 6 => some .resp1
  | 7 => some .resp2
  | 8 => some .resp3
  | _ => none

/-- The registers numbered 0x20 and up (R35). -/
def upperRegOfNum : Nat → Option Reg
  | 0x20 => some .seq
  | 0x21 => some .pend
  | 0x22 => some .evt
  | 0x23 => some .evtst
  | 0x24 => some .ien
  | 0x25 => some .rawsta
  | 0x26 => some (.hwresp 0)
  | 0x27 => some (.hwresp 1)
  | 0x28 => some (.hwresp 2)
  | 0x29 => some (.hwresp 3)
  | 0x2A => some .cmdreg
  | 0x2B => some .cmdargreg
  | 0x2C => some .dlen
  | 0x2D => some .dblk
  | 0x2E => some .dctl
  | 0x2F => some .ctl
  | 0x30 => some .codecst
  | 0x31 => some .wcnt
  | 0x32 => some .spin
  | 0x33 => some .xseq
  | 0x38 => some .dmactl
  | 0x39 => some .dmalen
  | 0x3A => some .buscfg
  | _ => none

/-- The register of a register number (R35); none for an undefined number (R37). -/
def regOfNum (n : BitVec 8) : Option Reg :=
  if n.toNat < 0x10 then (bankRegOfNum n.toNat).map (.bank .main)
  else if n.toNat < 0x20 then (bankRegOfNum (n.toNat - 0x10)).map (.bank .stop)
  else upperRegOfNum n.toNat

/-- The register numbers of the last column of R35, by name. -/
def numOfReg : Reg → BitVec 8
  | .bank s r =>
    (match s with | .main => 0x00#8 | .stop => 0x10#8) +
    (match r with
      | .ctl => 0#8 | .arg => 1#8 | .blk => 2#8 | .buf => 3#8 | .err => 4#8
      | .resp0 => 5#8 | .resp1 => 6#8 | .resp2 => 7#8 | .resp3 => 8#8)
  | .seq => 0x20#8
  | .pend => 0x21#8
  | .evt => 0x22#8
  | .evtst => 0x23#8
  | .ien => 0x24#8
  | .rawsta => 0x25#8
  | .hwresp i => 0x26#8 + BitVec.ofNat 8 i.val
  | .cmdreg => 0x2A#8
  | .cmdargreg => 0x2B#8
  | .dlen => 0x2C#8
  | .dblk => 0x2D#8
  | .dctl => 0x2E#8
  | .ctl => 0x2F#8
  | .codecst => 0x30#8
  | .wcnt => 0x31#8
  | .spin => 0x32#8
  | .xseq => 0x33#8
  | .dmactl => 0x38#8
  | .dmalen => 0x39#8
  | .buscfg => 0x3A#8

/-- The host's access to a register (R35). -/
def hostAccess : Reg → HostAccess
  | .bank _ .ctl => .rw
  | .bank _ .arg => .rw
  | .bank _ .blk => .rw
  | .bank _ .buf => .rw
  | .codecst     => .w1c
  | _            => .ro

/-- `reserved_mask` of R101: the bits of a writable register that a WRREG must write as 0. -/
def reservedMask : Reg → Word
  | .bank _ .ctl => 0xFFFFC0C0#32
  | .codecst     => 0xFFFFFFFE#32
  | _            => 0x00000000#32

/-! ## Pseudo-operations (R73) -/

/-- `crc7b crc, data`. -/
def pseudoCrc7b (crc : BitVec 7) (data : Byte) : List Instr := [.crc7 8#4 data crc]

/-- `crc16b crc, data`. -/
def pseudoCrc16b (crc : BitVec 16) (data : Byte) : List Instr := [.crc16 8#4 data crc]

/-- `setcmd s, opc, arg, rk`. -/
def pseudoSetcmd (s : Slot) (opc : BitVec 6) (arg : Word) (rk : BitVec 2) : List Instr :=
  [ .wrreg (numOfReg (.bank s .arg)) arg,
    .wrreg (numOfReg (.bank s .ctl)) (opc.setWidth 32 <<< 8 ||| rk.setWidth 32 <<< 1 ||| 1#32) ]

/-- `setcmdd s, opc, arg, rk, dir, mode, blksize, blkcnt, buf`. -/
def pseudoSetcmdd (s : Slot) (opc : BitVec 6) (arg : Word) (rk : BitVec 2) (dir mode : BitVec 1)
    (blksize blkcnt : BitVec 16) (buf : Word) : List Instr :=
  [ .wrreg (numOfReg (.bank s .arg)) arg,
    .wrreg (numOfReg (.bank s .blk)) (blkcnt.setWidth 32 <<< 16 ||| blksize.setWidth 32),
    .wrreg (numOfReg (.bank s .buf)) buf,
    .wrreg (numOfReg (.bank s .ctl))
      (opc.setWidth 32 <<< 8 ||| mode.setWidth 32 <<< 5 ||| dir.setWidth 32 <<< 4 ||| 1#32 <<< 3 |||
        rk.setWidth 32 <<< 1 ||| 1#32) ]

/-- `clrcmd s`. -/
def pseudoClrcmd (s : Slot) : List Instr := [.wrreg (numOfReg (.bank s .ctl)) 0#32]

/-- `clrovr`. -/
def pseudoClrovr : List Instr := [.wrreg (numOfReg .codecst) 1#32]

end Sys2Proof
end

