-- ==== Sys2Proof/Machine/State.lean ====
section
/-! DEFINITION. The state of SDCS (R10 to R39): every register, memory, hidden value and port of the spec, the model's own
bookkeeping (the chip's parameters, the schedule, the free-value counter), the reasons a step can stop, and the state
after reset (R36, R200). -/

namespace Sys2Proof.Machine

open Sys2Proof

/-! ## Names of field values -/

/-- Expected response kind, `CMDs_CTL.RK` (R13). -/
inductive RespKind where
  | none | short | shortNoCrc | long
  deriving DecidableEq, Repr

/-- Data direction (R13, R27, R31): 0 `ToCard`, 1 `FromCard`. -/
inductive Dir where
  | toCard | fromCard
  deriving DecidableEq, Repr

/-- Transfer mode (R13, R27): 0 `Block`, 1 `Stream`. -/
inductive XferMode where
  | block | stream
  deriving DecidableEq, Repr

/-- Memory-side width of the DMA channel (R31, R152); the field values 1 and 3 are never written. -/
inductive MemWidth where
  | w8 | w32
  deriving DecidableEq, Repr

/-- The error codes (R170). -/
inductive ErrCode where
  | success | commandCrcError | commandTimeout | dataCrcError | dataTimeout | busy | invalidArgument
  deriving DecidableEq, Repr

/-- `SEQ.PHASE` (R19): the next micro-step of SEND. The values 14 and 15 are never taken and have no constructor. -/
inductive Phase where
  | idle | evtReset | dataProg | dmaArm | setPend | irqEn | cmdStart | wait | classify | drain | drainExit
  | cleanup | recovOff | recovOn
  deriving DecidableEq, Repr

/-- `XSEQ.STAGE` (R20): the next stage of EXEC. The values 6 and 7 are never taken and have no constructor. -/
inductive Stage where
  | none | copyIn | main | copyOut | stop | release
  deriving DecidableEq, Repr

/-- The port codes (R66). -/
inductive PortCode where
  | ok | illegalOp | illegalOperand
  deriving DecidableEq, Repr

/-- What the block puts on its output ports (R34, R66): a result, or one pulse. -/
inductive Output where
  /-- The result `(code, value)` of an operation. -/
  | result (code : PortCode) (value : BitVec 64)
  /-- One pulse of `req_done`. -/
  | reqDone
  /-- One pulse of `card_irq`. -/
  | cardIrq
  deriving DecidableEq, Repr

/-! ## Registers with fields -/

/-- `CMDs_ERR` (R17): bits 7:0 and 15:8. -/
structure ErrSlot where
  cmdErr : ErrCode
  dataErr : ErrCode
  deriving DecidableEq, Repr

/-- One command descriptor bank with its result slot (R12 to R18). -/
structure Bank where
  ctl : Word
  arg : Word
  blk : Word
  buf : Word
  err : ErrSlot
  resp0 : Word
  resp1 : Word
  resp2 : Word
  resp3 : Word
  deriving DecidableEq, Repr

/-- `XSEQ` (R20). -/
structure XSeq where
  stage : Stage
  direct : Bool
  dslot : Slot
  deriving DecidableEq, Repr

/-- `PEND` (R21). -/
structure Pend where
  valid : Bool
  slot : Slot
  deriving DecidableEq, Repr

/-- `DCTL` (R27). -/
structure DataCtl where
  en : Bool
  dir : Dir
  mode : XferMode
  deriving DecidableEq, Repr

/-- `CTL` (R28). -/
structure BlockCtl where
  ctlen : Bool
  busy : Bool
  deriving DecidableEq, Repr

/-- `DMACTL` (R31). -/
structure DmaCtl where
  en : Bool
  dir : Dir
  mwidth : MemWidth
  deriving DecidableEq, Repr

/-- `BUSCFG` (R31). -/
structure BusCfg where
  clkdiv : BitVec 8
  width : BitVec 2
  pwr : BitVec 2
  clken : Bool
  hwgate : Bool
  deriving DecidableEq, Repr

/-- A byte memory: the cells that differ from `Config.memFill`, addresses strictly rising (`Mem.wf`). -/
abbrev Mem := List Host.Cell

/-! ## The state -/

/-- The state of the block and of what stands around it. Plain data. -/
structure State where
  /-- `CMD0_*` (R12 to R18). -/
  bank0 : Bank
  /-- `CMD1_*` (R12 to R18). -/
  bank1 : Bank
  /-- `SEQ.PHASE` (R19). -/
  phase : Phase
  /-- `XSEQ` (R20). -/
  xseq : XSeq
  /-- `PEND` (R21). -/
  pend : Pend
  /-- `EVT.SET` (R22). -/
  evtSet : Bool
  /-- `EVTST` (R22). -/
  evtst : Word
  /-- `IEN` (R24): 32 bits, 8 implemented. -/
  ien : Word
  /-- `RAWSTA` (R23): 32 bits, 10 implemented. -/
  rawsta : Word
  /-- `HWRESP0` (R25). -/
  hwresp0 : Word
  /-- `HWRESP1` (R25). -/
  hwresp1 : Word
  /-- `HWRESP2` (R25). -/
  hwresp2 : Word
  /-- `HWRESP3` (R25). -/
  hwresp3 : Word
  /-- `CMDREG` (R26): bit 8 `START`, bits 7:6 `RSPSEL`, bits 5:0 `IDX`. -/
  cmdreg : BitVec 9
  /-- `CMDARGREG` (R26). -/
  cmdargreg : Word
  /-- `DLEN` (R27). -/
  dlen : Word
  /-- `DBLK` (R27). -/
  dblk : Word
  /-- `DCTL` (R27). -/
  dctl : DataCtl
  /-- `CTL` (R28). -/
  ctl : BlockCtl
  /-- `CODECST.OVR` (R29). -/
  ovr : Bool
  /-- `WCNT` (R30). -/
  wcnt : BitVec 8
  /-- `SPIN` (R30). -/
  spin : Word
  /-- `DMACTL` (R31). -/
  dmactl : DmaCtl
  /-- `DMALEN` (R31). -/
  dmalen : Word
  /-- `BUSCFG` (R31). -/
  buscfg : BusCfg
  /-- The hidden status value `st` of SEND (R33 (b)). -/
  st : Word
  /-- The hidden flag `drainfail` of SEND (R33 (b)). -/
  drainfail : Bool
  /-- `BUF` (R32 (b)). -/
  buf : Mem
  /-- `HOSTMEM` (R32 (c)). -/
  hostmem : Mem
  /-- The input `card_present` (R34). -/
  cardPresent : Bool
  /-- The operation words of the hosts that are held (R50), the longest held first. -/
  waiting : List OpWord
  /-- What the block has put on its output ports (R34, R66), the latest first. -/
  out : List Output
  /-- The OPEN parameters of the chip (R5); no step writes them. -/
  params : Params
  /-- Whether an `apply` has written `BUSCFG` since power-on (R36). The model's own. -/
  busApplied : Bool
  /-- Which agents step next, with their choices, the next one first (R8). The model's own. -/
  script : List AgentStep
  /-- The DMA steps that will fall inside the next multi-byte copy, by the access to `BUF` they come right before (R43). The
  model's own: a part of the schedule, which the copy reads and clears (log entry 23). -/
  duringCopy : List (List DmaMove)
  /-- How many steps took their agent from the free value `Config.freeAgent`. The model's own. -/
  freeCount : Nat
  deriving DecidableEq, Repr

/-- Why the machine stops with a fault. Both are safe (the hardware has no such stop) and neither can happen in a state
that meets the invariant of Safety.lean (log entry 13). -/
inductive Fault where
  /-- Raised by EXEC's copies and by the DMA agent for an access to `BUF` at or above `BOUNCE_CAP`: the address does not
  exist (R32 (b)) and R46 says that such an access never happens. Safe. -/
  | bufOutOfRange
  /-- Raised by EXEC's copies for an access to `HOSTMEM` at or above 2^32: the address does not exist (R32 (c)) and R47
  says that addresses never wrap. Safe. -/
  | hostMemOutOfRange
  deriving DecidableEq, Repr

/-- Why an instruction has no meaning. -/
inductive Refusal where
  /-- Raised by exec's arm of an instruction that has no meaning yet; no arm of this model does so. Safe. -/
  | notModelled (mnemonic : String)
  deriving DecidableEq, Repr

/-- What a step answers. -/
abbrev Answer := Host.Outcome State Fault Refusal

/-! ## Reset (R36, R200) -/

/-- A descriptor bank after reset (R36): every register 0, both error fields `Success`. -/
def Bank.reset : Bank :=
  { ctl := 0#32, arg := 0#32, blk := 0#32, buf := 0#32, err := ⟨.success, .success⟩,
    resp0 := 0#32, resp1 := 0#32, resp2 := 0#32, resp3 := 0#32 }

/-- The machine right after reset (R36, R200). `HWRESP0..3` and `BUSCFG` are unspecified there and 0 here (log entry 1,
DESIGN CHOICE, unsafe); the contents of `BUF` and `HOSTMEM` are `Config.memFill` (log entry 2, DESIGN CHOICE, unsafe);
the hidden values, the input level and the bookkeeping are named in log entries 4, 5, 12, 15 and 23. -/
def State.reset : State :=
  { bank0 := Bank.reset, bank1 := Bank.reset,
    phase := .idle, xseq := ⟨.none, false, .main⟩, pend := ⟨false, .main⟩,
    evtSet := false, evtst := 0#32, ien := 0#32, rawsta := 0#32,
    hwresp0 := 0#32, hwresp1 := 0#32, hwresp2 := 0#32, hwresp3 := 0#32,
    cmdreg := 0#9, cmdargreg := 0#32,
    dlen := 0#32, dblk := 0#32, dctl := ⟨false, .toCard, .block⟩,
    ctl := ⟨true, false⟩, ovr := false, wcnt := 0#8, spin := 0#32,
    dmactl := ⟨false, .toCard, .w8⟩, dmalen := 0#32, buscfg := ⟨0#8, 0#2, 0#2, false, false⟩,
    st := 0#32, drainfail := false, buf := [], hostmem := [],
    cardPresent := false, waiting := [], out := [],
    params := Config.params, busApplied := false, script := [], duringCopy := [], freeCount := 0 }

end Sys2Proof.Machine
end

