-- ==== Sys2Proof/Machine/Operands.lean ====
section
/-! DEFINITION. The operands of the operations: the parameters of R5, the fields of the descriptor registers (R13 to R17),
the current slot, the effective length of R127, the response-length selector of R126, the value every register reads as
(R19 to R31), and the views the spec defines over the state (R125, R120). -/

namespace Sys2Proof

/-! ## The parameters (R5) -/

/-- `BOUNCE_CAP`, at least 520 (R5). -/
def Params.bounceCap (p : Params) : Nat := p.bounceExtra + 520

/-- `DRAIN_SPIN_MAX`, positive and below 2^32 (R5). -/
def Params.drainSpinMax (p : Params) : Word := BitVec.ofNat 32 (p.drainSpinPred.val + 1)

/-- `DMA_ALIGN`, a power of two, at least 4 (R5). -/
def Params.dmaAlign (p : Params) : Nat := 4 * 2 ^ p.dmaAlignLog

/-- Where offset `off` of `BUF` lies in the DMA agent's address space (R42 (b)). -/
def Params.dmaAddress (p : Params) (off : Nat) : Nat := p.bufBaseUnits * p.dmaAlign + off

namespace Machine

/-- A Boolean flag as a bit of a register. -/
abbrev bit (b : Bool) : BitVec 1 := BitVec.ofBool b

/-! ## Codes of field values -/

/-- `CMDs_CTL.RK` (R13). -/
def respKindOf (v : BitVec 2) : RespKind :=
  if v = 0#2 then .none else if v = 1#2 then .short else if v = 2#2 then .shortNoCrc else .long

/-- The direction bit (R13, R27, R31). -/
def dirBit : Dir → Bool
  | .toCard => false
  | .fromCard => true

/-- The mode bit (R13, R27). -/
def modeBit : XferMode → Bool
  | .block => false
  | .stream => true

/-- `DMACTL.MWIDTH` (R31). -/
def memWidthCode : MemWidth → BitVec 2
  | .w8 => 0#2
  | .w32 => 2#2

/-- The numbers of the error codes (R170). -/
def ErrCode.num : ErrCode → BitVec 8
  | .success         => 0#8
  | .commandCrcError => 1#8
  | .commandTimeout  => 2#8
  | .dataCrcError    => 3#8
  | .dataTimeout     => 4#8
  | .busy            => 5#8
  | .invalidArgument => 6#8

/-- The numbers of the port codes (R66). -/
def PortCode.num : PortCode → BitVec 8
  | .ok             => 0#8
  | .illegalOp      => 1#8
  | .illegalOperand => 2#8

/-- The numbers of the phases (R19). -/
def Phase.num : Phase → BitVec 4
  | .idle => 0#4
  | .evtReset => 1#4
  | .dataProg => 2#4
  | .dmaArm => 3#4
  | .setPend => 4#4
  | .irqEn => 5#4
  | .cmdStart => 6#4
  | .wait => 7#4
  | .classify => 8#4
  | .drain => 9#4
  | .drainExit => 10#4
  | .cleanup => 11#4
  | .recovOff => 12#4
  | .recovOn => 13#4

/-- The numbers of the stages (R20). -/
def Stage.num : Stage → BitVec 3
  | .none => 0#3
  | .copyIn => 1#3
  | .main => 2#3
  | .copyOut => 3#3
  | .stop => 4#3
  | .release => 5#3

/-! ## The fields of `CMDs_CTL` (R13) and `CMDs_BLK` (R15) -/

/-- `VALID`, bit 0. -/
def Bank.valid (b : Bank) : Bool := b.ctl.getLsbD 0

/-- `RK`, bits 2:1. -/
def Bank.rk (b : Bank) : RespKind := respKindOf (b.ctl.extractLsb' 1 2)

/-- `HASDATA`, bit 3. -/
def Bank.hasData (b : Bank) : Bool := b.ctl.getLsbD 3

/-- `DIR`, bit 4. -/
def Bank.dir (b : Bank) : Dir := if b.ctl.getLsbD 4 then .fromCard else .toCard

/-- `MODE`, bit 5. -/
def Bank.mode (b : Bank) : XferMode := if b.ctl.getLsbD 5 then .stream else .block

/-- `OPC`, bits 13:8. -/
def Bank.opc (b : Bank) : BitVec 6 := b.ctl.extractLsb' 8 6

/-- `BLKSIZE`, bits 15:0. -/
def Bank.blksize (b : Bank) : Nat := (b.blk.extractLsb' 0 16).toNat

/-- `BLKCNT`, bits 31:16. -/
def Bank.blkcnt (b : Bank) : Nat := (b.blk.extractLsb' 16 16).toNat

/-- The transfer length `L = BLKCNT * BLKSIZE` (R15, R127), 0 when no data is attached. -/
def Bank.len (b : Bank) : Nat := if b.hasData then b.blkcnt * b.blksize else 0

/-- The condition `crc` of R127: a stream block to the card, one block, not over the ceiling. It does not look at the
bus width (R208). -/
def Bank.crc (b : Bank) : Bool :=
  b.hasData && b.mode == .stream && b.dir == .toCard && b.blkcnt == 1 && Nat.ble b.len Config.s4Ceiling

/-- The effective length `L'` of R127. -/
def Bank.effLen (b : Bank) : Nat := if b.crc then b.len + Config.trailerBytes else b.len

/-- The effective block size `bs'` of R127. -/
def Bank.effBlk (b : Bank) : Nat := if b.crc then b.blksize + Config.trailerBytes else b.blksize

/-- `RspSel` (R126). -/
def rspSel : RespKind → BitVec 2
  | .none       => 0#2
  | .short      => 1#2
  | .shortNoCrc => 1#2
  | .long       => 3#2

/-- "Completion status" (R120): the command error if there is one, else the data error. It is not stored. -/
def ErrSlot.status (e : ErrSlot) : ErrCode := if e.cmdErr = .success then e.dataErr else e.cmdErr

/-- `CMDs_ERR` as a 32-bit number (R17). -/
def ErrSlot.word (e : ErrSlot) : Word := (0#16 ++ e.dataErr.num ++ e.cmdErr.num : BitVec 32)

/-! ## Banks and the current slot -/

/-- The bank of a slot (R12). -/
def State.bank (s : State) : Slot → Bank
  | .main => s.bank0
  | .stop => s.bank1

/-- The state with the bank of a slot replaced. -/
def State.setBank (s : State) (c : Slot) (b : Bank) : State :=
  match c with
  | .main => { s with bank0 := b }
  | .stop => { s with bank1 := b }

/-- The current slot `cs` (`42_sequencer.md`, before R110). -/
def State.cs (s : State) : Slot :=
  if s.xseq.direct then s.xseq.dslot else if s.xseq.stage = .main then .main else .stop

/-- "Inside SEND" (`42_sequencer.md`, before R110). -/
def State.insideSend (s : State) : Bool :=
  s.xseq.direct || s.xseq.stage == .main || s.xseq.stage == .stop

/-- The bank of the current slot. -/
abbrev State.cur (s : State) : Bank := s.bank s.cs

/-! ## Register values (R13 to R31) -/

/-- `XSEQ` as a number (R20): bit 4 `DSLOT`, bit 3 `DIRECT`, bits 2:0 `STAGE`. -/
def XSeq.word (x : XSeq) : BitVec 5 := (bit (bitOfSlot x.dslot) ++ bit x.direct ++ x.stage.num : BitVec 5)

/-- `PEND` as a number (R21): bit 1 `SLOT`, bit 0 `VALID`. -/
def Pend.word (p : Pend) : BitVec 2 := (bit (bitOfSlot p.slot) ++ bit p.valid : BitVec 2)

/-- `DCTL` as a number (R27): bit 2 `MODE`, bit 1 `DIR`, bit 0 `EN`. -/
def DataCtl.word (d : DataCtl) : BitVec 3 := (bit (modeBit d.mode) ++ bit (dirBit d.dir) ++ bit d.en : BitVec 3)

/-- `CTL` as a number (R28): bit 1 `BUSY`, bit 0 `CTLEN`. -/
def BlockCtl.word (c : BlockCtl) : BitVec 2 := (bit c.busy ++ bit c.ctlen : BitVec 2)

/-- `DMACTL` as a number (R31): bits 3:2 `MWIDTH`, bit 1 `DIR`, bit 0 `EN`. -/
def DmaCtl.word (d : DmaCtl) : BitVec 4 := (memWidthCode d.mwidth ++ bit (dirBit d.dir) ++ bit d.en : BitVec 4)

/-- `BUSCFG` as a number (R31): bit 13 `HWGATE`, bit 12 `CLKEN`, bits 11:10 `PWR`, bits 9:8 `WIDTH`, bits 7:0 `CLKDIV`. -/
def BusCfg.word (c : BusCfg) : BitVec 14 :=
  (bit c.hwgate ++ bit c.clken ++ c.pwr ++ c.width ++ c.clkdiv : BitVec 14)

/-- The fields of a `BUSCFG` number (R31, R36). -/
def busCfgOf (v : BitVec 14) : BusCfg :=
  { clkdiv := v.extractLsb' 0 8, width := v.extractLsb' 8 2, pwr := v.extractLsb' 10 2,
    clken := v.getLsbD 12, hwgate := v.getLsbD 13 }

/-- The value stored in a register of a bank (R13 to R18). -/
def Bank.stored (b : Bank) : BankReg → Word
  | .ctl   => b.ctl
  | .arg   => b.arg
  | .blk   => b.blk
  | .buf   => b.buf
  | .err   => b.err.word
  | .resp0 => b.resp0
  | .resp1 => b.resp1
  | .resp2 => b.resp2
  | .resp3 => b.resp3

/-- The hardware response register `HWRESPi` (R25). -/
def State.hwresp (s : State) (i : Fin 4) : Word :=
  match i with
  | 0 => s.hwresp0
  | 1 => s.hwresp1
  | 2 => s.hwresp2
  | 3 => s.hwresp3

/-- The value stored in a register (R35). -/
def State.stored (s : State) : Reg → Word
  | .bank c r  => (s.bank c).stored r
  | .seq       => s.phase.num.setWidth 32
  | .pend      => s.pend.word.setWidth 32
  | .evt       => (bit s.evtSet).setWidth 32
  | .evtst     => s.evtst
  | .ien       => s.ien
  | .rawsta    => s.rawsta
  | .hwresp i  => s.hwresp i
  | .cmdreg    => s.cmdreg.setWidth 32
  | .cmdargreg => s.cmdargreg
  | .dlen      => s.dlen
  | .dblk      => s.dblk
  | .dctl      => s.dctl.word.setWidth 32
  | .ctl       => s.ctl.word.setWidth 32
  | .codecst   => (bit s.ovr).setWidth 32
  | .wcnt      => s.wcnt.setWidth 32
  | .spin      => s.spin
  | .xseq      => s.xseq.word.setWidth 32
  | .dmactl    => s.dmactl.word.setWidth 32
  | .dmalen    => s.dmalen
  | .buscfg    => s.buscfg.word.setWidth 32

/-- The implemented bits of a register; every other bit reads 0 (R12, R13, R17, R19 to R24, R26 to R31). -/
def implementedMask : Reg → Word
  | .bank _ .ctl => 0x00003F3F#32
  | .bank _ .err => 0x0000FFFF#32
  | .seq         => 0x0000000F#32
  | .pend        => 0x00000003#32
  | .evt         => 0x00000001#32
  | .ien         => 0x0000027F#32
  | .rawsta      => 0x000003FF#32
  | .cmdreg      => 0x000001FF#32
  | .dctl        => 0x00000007#32
  | .ctl         => 0x00000003#32
  | .codecst     => 0x00000001#32
  | .wcnt        => 0x000000FF#32
  | .xseq        => 0x0000001F#32
  | .dmactl      => 0x0000000F#32
  | .buscfg      => 0x00003FFF#32
  | _            => 0xFFFFFFFF#32

/-- `x[r]` (R7): what a read of register `r` gives. Reserved bits read 0 (R100). No read has a side effect (R44). -/
def State.readReg (s : State) (r : Reg) : Word := s.stored r &&& implementedMask r

/-! ## Views -/

/-- The source's engine state (R125). -/
inductive EngineState where
  | idle | commandInFlight | dataInFlight | completing
  deriving DecidableEq, Repr

/-- The engine state as a function of the phase (R125); phases 12 and 13 outside SEND have none (R19). -/
def State.engineState (s : State) : Option EngineState :=
  match s.phase with
  | .idle => some .idle
  | .evtReset | .dataProg | .dmaArm | .setPend | .irqEn | .cmdStart | .wait | .classify => some .commandInFlight
  | .drain | .drainExit => some .dataInFlight
  | .cleanup => some .completing
  | .recovOff | .recovOn => if s.insideSend then some .completing else none

end Machine

end Sys2Proof
end

