-- ==== Sys2Proof/Machine/Flags.lean ====
section
/-! DEFINITION. The status flags: the bits and masks of `RAWSTA` (R23), the interrupt request (R175), the completion
condition of the ISR (R176), the enables S5 writes (R116), and the classification of a status value (R120). -/

namespace Sys2Proof.Machine

open Sys2Proof

/-! ## Bit numbers (R23) -/

/-- `CCRCFAIL`. -/
def bCcrcFail : Nat := 0
/-- `DCRCFAIL`. -/
def bDcrcFail : Nat := 1
/-- `CTIMEOUT`. -/
def bCtimeout : Nat := 2
/-- `DTIMEOUT`. -/
def bDtimeout : Nat := 3
/-- `CMDREND`. -/
def bCmdRend : Nat := 4
/-- `CMDSENT`. -/
def bCmdSent : Nat := 5
/-- `DATAEND`. -/
def bDataEnd : Nat := 6
/-- `CARDIRQ`. -/
def bCardIrq : Nat := 9

/-! ## Masks (R23, R116) -/

/-- `ERRMASK`: the four error flags. -/
def errMask : Word := 0x0000000F#32
/-- `RUNMASK`: `TXRUN` and `RXRUN`. -/
def runMask : Word := 0x00000180#32
/-- `IRQBITS`: the flags that can request an interrupt. -/
def irqBits : Word := 0x0000027F#32
/-- The implemented bits of `RAWSTA`. -/
def rawBits : Word := 0x000003FF#32
/-- The enable of the card interrupt in `IEN`. -/
def cardIrqBit : Word := 0x00000200#32
/-- The enables of `CMDREND` and `CMDSENT` in `IEN`. -/
def cmdFlagBits : Word := 0x00000030#32
/-- The enable of `DATAEND` in `IEN`. -/
def dataEndBit : Word := 0x00000040#32

/-- The pending sources (R173, R176): raised and enabled. -/
def State.pendingSources (s : State) : Word := s.rawsta &&& s.ien &&& irqBits

/-- The interrupt request `irq` (R175), a level and a function of `RAWSTA` and `IEN` alone. -/
def State.irq (s : State) : Bool := s.pendingSources != 0#32

/-- The condition `complete` of R176 for the pending sources `a` and the `HASDATA` bit of the pending bank. -/
def irqCompletes (a : Word) (hasData : Bool) : Bool :=
  (a &&& errMask != 0#32) || a.getLsbD bDataEnd || ((a.getLsbD bCmdSent || a.getLsbD bCmdRend) && !hasData)

/-- The enables S5 writes (R116). -/
def sendEnables (ien : Word) (hasData : Bool) : Word :=
  ien &&& cardIrqBit ||| errMask ||| cmdFlagBits ||| (if hasData then dataEndBit else 0#32)

/-- The command error of a status value (R120): timeout first, then a CRC failure unless the kind tolerates it. -/
def classifyCmd (st : Word) (rk : RespKind) : ErrCode :=
  if st.getLsbD bCtimeout then .commandTimeout
  else if st.getLsbD bCcrcFail && rk != .shortNoCrc then .commandCrcError
  else .success

/-- The data error of a status value (R120): timeout first, then a CRC failure. -/
def classifyData (st : Word) : ErrCode :=
  if st.getLsbD bDtimeout then .dataTimeout
  else if st.getLsbD bDcrcFail then .dataCrcError
  else .success

end Sys2Proof.Machine
end

