-- ==== Sys2Proof/Machine/Ops.lean ====
section
/-! DEFINITION. The named operations over memories, registers and ports that the meanings share: byte memories (R7, R40),
the writes of registers, results and pulses (R7), errors and port refusals (R170 to R172), and the one interrupt of the
block, the ISR step (R176), with nothing to return from (R179, R180). -/

namespace Sys2Proof.Machine

open Sys2Proof

/-! ## Byte memories (R7, R32, R40) -/

/-- The canonical form: addresses strictly rising, no cell equal to what an unlisted address reads as. -/
abbrev Mem.wf (m : Mem) : Prop :=
  m.Pairwise (fun p q => p.1 < q.1) ∧ ∀ p ∈ m, p.2 ≠ Config.memFill

/-- The byte at an address. -/
def Mem.read : Mem → Nat → Byte
  | [], _ => Config.memFill
  | (k, v) :: m, a => if k = a then v else Mem.read m a

/-- The memory without a cell for an address. -/
def Mem.clear (m : Mem) (a : Nat) : Mem := m.filter (fun p => p.1 != a)

/-- The memory with a cell put in its place. -/
def Mem.insert : Mem → Nat → Byte → Mem
  | [], a, v => [(a, v)]
  | (k, w) :: m, a, v => if a < k then (a, v) :: (k, w) :: m else (k, w) :: Mem.insert m a v

/-- Write one byte. Writing what an unlisted address reads as removes the cell. -/
def Mem.write (m : Mem) (a : Nat) (v : Byte) : Mem :=
  if v = Config.memFill then Mem.clear m a else Mem.insert (Mem.clear m a) a v

/-- `MemRead(space, addr, n)` (R7): the bytes at `addr .. addr+n-1`, the byte at `addr` first. -/
def Mem.readBytes (m : Mem) (a n : Nat) : List Byte := (List.range n).map (fun i => Mem.read m (a + i))

/-- `MemWrite(space, addr, n, bytes)` (R7): single-byte writes in ascending address order. -/
def Mem.writeBytes (m : Mem) (a : Nat) : List Byte → Mem
  | [] => m
  | v :: vs => Mem.writeBytes (Mem.write m a v) (a + 1) vs

/-- The bytes `a .. a+n-1` lie in `BUF` (R32 (b), R46). -/
def State.inBuf (s : State) (a n : Nat) : Bool := Nat.ble (a + n) s.params.bounceCap

/-- The bytes `a .. a+n-1` lie in `HOSTMEM` (R32 (c), R47). -/
def inHostMem (a n : Nat) : Bool := Nat.ble (a + n) (2 ^ 32)

/-! ## Registers -/

/-- Replace the bank of the current slot. -/
def State.setCur (s : State) (b : Bank) : State := s.setBank s.cs b

/-- Write `CMDs_CTL`, `CMDs_ARG`, `CMDs_BLK` or `CMDs_BUF` whole (R101); the result slot is not writable. -/
def Bank.store (b : Bank) (r : BankReg) (v : Word) : Bank :=
  match r with
  | .ctl => { b with ctl := v }
  | .arg => { b with arg := v }
  | .blk => { b with blk := v }
  | .buf => { b with buf := v }
  | .err | .resp0 | .resp1 | .resp2 | .resp3 => b

/-- Write `IEN`; the unimplemented bits cannot be set (R24). -/
def State.setIen (s : State) (v : Word) : State := { s with ien := v &&& irqBits }

/-- Write `RAWSTA`; the reserved bits stay 0 (R23). -/
def State.setRawsta (s : State) (v : Word) : State := { s with rawsta := v &&& rawBits }

/-- `CTL.BUSY <- b` (R28). -/
def State.setBusy (s : State) (b : Bool) : State := { s with ctl := { s.ctl with busy := b } }

/-- `CTL.CTLEN <- b` (R28). -/
def State.setCtlen (s : State) (b : Bool) : State := { s with ctl := { s.ctl with ctlen := b } }

/-- `SEQ.PHASE <- p` (R7, R19). -/
def State.setPhase (s : State) (p : Phase) : State := { s with phase := p }

/-- `XSEQ.STAGE <- g` (R7, R20). -/
def State.setStage (s : State) (g : Stage) : State := { s with xseq := { s.xseq with stage := g } }

/-- `PEND.VALID <- 0` (R21). -/
def State.clearPend (s : State) : State := { s with pend := { s.pend with valid := false } }

/-! ## Results and pulses (R7, R66) -/

/-- `emit` a pulse, or deliver a result, on an output port. -/
def State.emit (s : State) (o : Output) : State := { s with out := o :: s.out }

/-- `res <- (code, value)` (R7). -/
def State.deliver (s : State) (code : PortCode) (value : BitVec 64) : State := s.emit (.result code value)

/-- The port refuses the word because of an operand value (R66, R69 (b), R172): `(IllegalOperand, 0)`, nothing changes. -/
def State.refuseOperand (s : State) : State := s.deliver .illegalOperand 0#64

/-- The port refuses the word because it spells no operation (R66, R69 (a), R172): `(IllegalOp, 0)`, nothing changes. -/
def State.refuseOp (s : State) : State := s.deliver .illegalOp 0#64

/-! ## Errors (R7 `raise`, R170) -/

/-- `raise <Error>(slot)` into `CMDs_ERR.CMDERR`: the code and nothing else is recorded (R170). -/
def State.raiseCmd (s : State) (c : Slot) (e : ErrCode) : State :=
  s.setBank c { s.bank c with err := { (s.bank c).err with cmdErr := e } }

/-! ## The interrupt (R175 to R180) -/

/-- The ISR acknowledges exactly the pending sources and reports the card interrupt (R176). -/
def State.acknowledge (s : State) : State :=
  let a := s.pendingSources
  let s1 := { s with rawsta := s.rawsta &&& ~~~a }
  if a.getLsbD bCardIrq then s1.emit .cardIrq else s1

/-- The ISR completes the pending command (R176): it signals the event with the status read at entry and clears the
pending reference in the same step. -/
def State.signal (s : State) (snap : Word) : State :=
  { s with evtst := snap, evtSet := true, pend := { s.pend with valid := false } }

/-- The ISR step (R176): one atomic step, enabled when `irq` holds. It saves nothing, changes no mode and has nothing to
return from (R179, R180). Where `irq` does not hold ISR has no step and nothing changes (log entry 6). -/
def isrStep (s : State) : State :=
  if s.irq then
    let acked := s.acknowledge
    if s.pend.valid && irqCompletes s.pendingSources (s.bank s.pend.slot).hasData then acked.signal s.rawsta
    else acked
  else s

end Sys2Proof.Machine
end

