-- ==== Sys2Proof/Machine/Adjacent.lean ====
section
/-! DEFINITION. The adjacent components (`45_adjacent_components.md`): the DMA Transfer Manager's `arm` and `disable`, the
DMA agent, alone and inside a multi-byte copy of `BUF` (R43), and `apply` of the Bus Configuration State Machine. -/

namespace Sys2Proof.Machine

open Sys2Proof

/-! ## DMA Transfer Manager -/

/-- `DMA.arm(dir, base, length, mwidth)` (R151): the channel is fully reset and then configured and enabled. `base` is
always offset 0 of `BUF` (R150) and has no register. -/
def State.dmaArm (s : State) (dir : Dir) (length : Nat) (mwidth : MemWidth) : State :=
  let cleared := { s with dmactl := ⟨false, .toCard, .w8⟩, dmalen := 0#32 }
  { cleared with dmactl := ⟨true, dir, mwidth⟩, dmalen := BitVec.ofNat 32 length }

/-- `DMA.disable()` (R156). -/
def State.dmaDisable (s : State) : State := { s with dmactl := { s.dmactl with en := false } }

/-- Whether the DMA agent has a step at index `i` (R153). -/
def State.dmaEnabled (s : State) (i : Nat) : Bool := s.dmactl.en && Nat.blt i s.dmalen.toNat

/-- One step of the DMA agent at index `i` (R153): from the card it writes the byte, to the card it only reads. It writes
no register. -/
def dmaStep (i : Nat) (v : Byte) (s : State) : Answer :=
  if s.dmaEnabled i then
    if s.inBuf i 1 then
      match s.dmactl.dir with
      | .fromCard => .next { s with buf := Mem.write s.buf i v }
      | .toCard => .next s
    else .fault .bufOutOfRange
  else .next s

/-! ## Multi-byte copies of `BUF`, with DMA steps inside (R7, R43)

A copy is a sequence of single-byte accesses in ascending order (R7), one step for ISR and hosts, and not atomic for the
DMA agent (R43). `gaps` names the DMA steps inside it: its `k`-th list comes right before the `k`-th access. -/

/-- Whether a step of the DMA agent at index `i` writes `BUF` (R153): the agent never leaves `BUF`. -/
def State.dmaWrites (s : State) (i : Nat) : Bool := s.dmaEnabled i && s.dmactl.dir == .fromCard && s.inBuf i 1

/-- `BUF` after DMA steps, in order; a step that is not enabled or goes to the card changes nothing. -/
def State.dmaMoves (s : State) : List DmaMove → Mem → Mem
  | [], m => m
  | x :: xs, m => s.dmaMoves xs (if s.dmaWrites x.1 then Mem.write m x.1 x.2 else m)

/-- `MemRead(BUF, a, n)` (R7) with DMA steps inside: the bytes read, and `BUF` after the last read. -/
def State.readBuf (s : State) : List (List DmaMove) → Nat → Nat → Mem → List Byte × Mem
  | _, _, 0, m => ([], m)
  | gaps, a, n + 1, m =>
    let m1 := s.dmaMoves (gaps.headD []) m
    let r := s.readBuf gaps.tail (a + 1) n m1
    (Mem.read m1 a :: r.1, r.2)

/-- `MemWrite(BUF, a, n, bytes)` (R7) with DMA steps inside: `BUF` after the last write. -/
def State.writeBuf (s : State) : List (List DmaMove) → Nat → List Byte → Mem → Mem
  | _, _, [], m => m
  | gaps, a, v :: vs, m => s.writeBuf gaps.tail (a + 1) vs (Mem.write (s.dmaMoves (gaps.headD []) m) a v)

/-! ## Bus Configuration State Machine -/

/-- The value of `BUSCFG.WIDTH` for a number of lines (R163); none for a width that is invalid. -/
def widthCode (lines : Nat) : Option (BitVec 2) :=
  if lines = 1 then some 0#2 else if lines = 4 then some 1#2 else if lines = 8 then some 2#2 else none

/-- The clamped divider of R162, before the bias. -/
def clampDiv (d : Nat) : Nat :=
  if d < Config.divMin then Config.divMin else if Config.divMax < d then Config.divMax else d

/-- `CLKDIV` after `apply` (R162): unchanged when the target clock is 0. -/
def newClkdiv (old : BitVec 8) (source target : Nat) : BitVec 8 :=
  if target = 0 then old else BitVec.ofNat 8 (clampDiv (source / target) - Config.divBias)

/-- The power part of `apply` (R164). -/
def BusCfg.setPower (c : BusCfg) (p : Power) : BusCfg :=
  match p with
  | .off => { c with clken := false, pwr := 0#2 }
  | .up  => { c with pwr := 1#2 }
  | .on  => { c with hwgate := true, clken := true, pwr := 2#2 }

/-- `apply(config)` (R160 to R166): only while `CTL.BUSY = 0`; refused whole when the source clock is below the threshold
or the width is invalid; then divider, width, power in one step. -/
def applyStep (c : BusConfig) (s : State) : State :=
  if s.ctl.busy then s
  else if c.source < Config.minSrcClock then s
  else
    match widthCode c.lines with
    | none => s
    | some w =>
      let divided := { s.buscfg with clkdiv := newClkdiv s.buscfg.clkdiv c.source c.target }
      let widened := { divided with width := w }
      { s with buscfg := widened.setPower c.power, busApplied := true }

end Sys2Proof.Machine
end

