-- ==== Sys2Proof/Machine/Codec.lean ====
section
/-! DEFINITION. The CRC codec (`40_crc_codec.md`): the bit-serial functions R80 and R81, the steps R82 and R83, the 4-lane
trailer R85 to R89 and the operations CRC7, CRC16 and CRC16S4. -/

namespace Sys2Proof.Machine

open Sys2Proof

/-! ## The bit-serial functions (R80, R81) -/

/-- `Crc7Bit(c, d)` (R80). -/
def crc7Bit (c : BitVec 7) (d : Bool) : BitVec 7 :=
  if c.getLsbD 6 ^^ d then (c <<< 1) ^^^ Config.crc7Taps else c <<< 1

/-- `Crc16Bit(c, d)` (R81). -/
def crc16Bit (c : BitVec 16) (d : Bool) : BitVec 16 :=
  if c.getLsbD 15 ^^ d then (c <<< 1) ^^^ Config.crc16Taps else c <<< 1

/-- The top `n` bits of a byte, bit 7 first (R82, R83: "processed MSB-first"). -/
def topBits (data : Byte) (n : Nat) : List Bool := (List.range n).map (fun i => data.getLsbD (7 - i))

/-- One CRC7 step over the top `n` bits of a byte (R82). -/
def crc7Step (c : BitVec 7) (data : Byte) (n : Nat) : BitVec 7 := (topBits data n).foldl crc7Bit c

/-- One CRC16 step over the top `n` bits of a byte (R83). -/
def crc16Step (c : BitVec 16) (data : Byte) (n : Nat) : BitVec 16 := (topBits data n).foldl crc16Bit c

/-- `Crc7Msg` (R84 (c)): the source's one-argument `crc7` of a byte-aligned message. -/
def crc7Msg (bytes : List Byte) : BitVec 7 := bytes.foldl (fun c v => crc7Step c v 8) 0#7

/-- `Crc16Msg` (R84 (c)). -/
def crc16Msg (bytes : List Byte) : BitVec 16 := bytes.foldl (fun c v => crc16Step c v 8) 0#16

/-! ## The 4-lane trailer (R85 to R89) -/

/-- The bit sequence of lane `k`, first bit first (R85): of every byte, bit `k+4` and then bit `k`. -/
def laneBits (k : Nat) (bytes : List Byte) : List Bool :=
  bytes.flatMap (fun b => [b.getLsbD (k + 4), b.getLsbD k])

/-- `C_k` (R87) as the fold of `Crc16Bit` over the bits of the lane, from `S4_INIT`. -/
def laneCrc (k : Nat) (bytes : List Byte) : BitVec 16 := (laneBits k bytes).foldl crc16Bit Config.s4Init

/-- A byte from at most 8 bits, the earliest in bit 7, the low bits 0 (R86). -/
def packByte (bits : List Bool) : Byte :=
  (List.range 8).foldl (fun v i => v <<< 1 ||| (BitVec.ofBool (bits.getD i false)).setWidth 8) 0#8

/-- `C_k` through the packed lane bytes (R86, R87): a CRC16 step of 8 bits for every full lane byte, and a partial step
for the rest. The recursion is on a bound of the number of lane bytes. -/
def packedCrcFrom : Nat → BitVec 16 → List Bool → BitVec 16
  | 0, c, _ => c
  | fuel + 1, c, bits =>
    if bits = [] then c
    else packedCrcFrom fuel (crc16Step c (packByte (bits.take 8)) (min bits.length 8)) (bits.drop 8)

/-- `C_k` as R86 and R87 write it, with packed lane bytes. -/
def laneCrcPacked (k : Nat) (bytes : List Byte) : BitVec 16 :=
  packedCrcFrom (laneBits k bytes).length Config.s4Init (laneBits k bytes)

/-- Byte `j` of the trailer (R88): bit `k+4` is `C_k[15 - 2j]`, bit `k` is `C_k[14 - 2j]`. -/
def trailerByte (c0 c1 c2 c3 : BitVec 16) (j : Nat) : Byte :=
  (bit (c3.getLsbD (15 - 2 * j)) ++ bit (c2.getLsbD (15 - 2 * j)) ++ bit (c1.getLsbD (15 - 2 * j)) ++
    bit (c0.getLsbD (15 - 2 * j)) ++ bit (c3.getLsbD (14 - 2 * j)) ++ bit (c2.getLsbD (14 - 2 * j)) ++
    bit (c1.getLsbD (14 - 2 * j)) ++ bit (c0.getLsbD (14 - 2 * j)) : BitVec 8)

/-- `S4Trailer` (R89): the eight bytes `T_0 .. T_7`. -/
def s4Trailer (bytes : List Byte) : List Byte :=
  (List.range Config.trailerBytes).map
    (trailerByte (laneCrc 0 bytes) (laneCrc 1 bytes) (laneCrc 2 bytes) (laneCrc 3 bytes))

/-- Read `n` bytes of `BUF` at `a` and append their trailer (R90, R113). DMA steps may fall between any two of the `n` reads
and eight writes (R43). -/
def State.appendTrailer (s : State) (a n : Nat) : State :=
  let r := s.readBuf s.duringCopy a n s.buf
  { s with buf := s.writeBuf (s.duringCopy.drop n) (a + n) (s4Trailer r.1) r.2, duringCopy := [] }

/-! ## The operations -/

/-- CRC7 (R82): a pure function of the operation word. -/
def execCrc7 (nbits : BitVec 4) (data : Byte) (crc : BitVec 7) (s : State) : Answer :=
  if nbits.toNat ≤ Config.stepMaxBits then
    .next (s.deliver .ok ((crc7Step crc data nbits.toNat).setWidth 64))
  else .next s.refuseOperand

/-- CRC16 (R83): a pure function of the operation word. -/
def execCrc16 (nbits : BitVec 4) (data : Byte) (crc : BitVec 16) (s : State) : Answer :=
  if nbits.toNat ≤ Config.stepMaxBits then
    .next (s.deliver .ok ((crc16Step crc data nbits.toNat).setWidth 64))
  else .next s.refuseOperand

/-- CRC16S4 (R90, R91): the ceiling test first, then the bounds test, then the trailer. -/
def execCrc16s4 (len : BitVec 16) (addr : BitVec 32) (s : State) : Answer :=
  if Config.s4Ceiling < len.toNat then .next ({ s with ovr := true }.deliver .ok 0#64)
  else if s.params.bounceCap < addr.toNat + len.toNat + Config.trailerBytes then .next s.refuseOperand
  else .next ((s.appendTrailer addr.toNat len.toNat).deliver .ok 0#64)

end Sys2Proof.Machine
end

