-- ==== Sys2Proof/Machine/RegAccess.lean ====
section
/-! DEFINITION. Register access and the small host operations (`41_register_access.md`): RDREG, WRREG, IRQEN, DETECT. None
needs a privilege (R104). -/

namespace Sys2Proof.Machine

open Sys2Proof

/-- RDREG (R100). No read has a side effect (R44). -/
def execRdreg (reg : BitVec 8) (s : State) : Answer :=
  match regOfNum reg with
  | none => .next s.refuseOperand
  | some r => .next (s.deliver .ok ((s.readReg r).setWidth 64))

/-- What a WRREG that passes its checks writes (R101): `CODECST` is write one to clear, the descriptor registers take the
value whole, and no other register is writable. -/
def State.writeReg (s : State) (r : Reg) (v : Word) : State :=
  match r with
  | .codecst => if v.getLsbD 0 then { s with ovr := false } else s
  | .bank c br => s.setBank c ((s.bank c).store br v)
  | _ => s

/-- WRREG (R101). -/
def execWrreg (reg : BitVec 8) (value : Word) (s : State) : Answer :=
  match regOfNum reg with
  | none => .next s.refuseOperand
  | some r =>
    if hostAccess r = .ro then .next s.refuseOperand
    else if value &&& reservedMask r ≠ 0#32 then .next s.refuseOperand
    else .next ((s.writeReg r value).deliver .ok 0#64)

/-- `IEN.CARDIRQ <- b` (R102). -/
def State.setCardIrqEnable (s : State) (b : Bool) : State :=
  if b then s.setIen (s.ien ||| cardIrqBit) else s.setIen (s.ien &&& ~~~cardIrqBit)

/-- IRQEN (R102). -/
def execIrqen (b : Bool) (s : State) : Answer := .next ((s.setCardIrqEnable b).deliver .ok 0#64)

/-- DETECT (R103). -/
def execDetect (s : State) : Answer := .next (s.deliver .ok ((bit s.cardPresent).setWidth 64))

end Sys2Proof.Machine
end

