-- ==== Sys2Proof/Machine/Sequencer.lean ====
section
/-! DEFINITION. The sequencer (`42_sequencer.md`): the acceptance steps of SEND, EXEC and RECOVER, the micro-steps S1 to
S11 and the two of hard recovery, the stages of EXEC, and which of them ENGINE takes next (R136). -/

namespace Sys2Proof.Machine

open Sys2Proof

/-! ## Acceptance (R111, R130, R140) -/

/-- Whether a direct SEND of a slot is accepted (R111). -/
def State.sendOk (s : State) (c : Slot) : Bool :=
  (s.bank c).valid && !((s.bank c).hasData && Nat.blt s.params.bounceCap (s.bank c).effLen)

/-- SEND (R111): the acceptance step; micro-steps S1 to S11 follow, and S11 delivers the result. -/
def execSend (slot : Slot) (s : State) : Answer :=
  if s.sendOk slot then
    .next ({ s.setBusy true with xseq := { s.xseq with direct := true, dslot := slot }, phase := .evtReset })
  else .next s.refuseOperand

/-- The data of a request's main command is invalid (R130). -/
def State.mainDataInvalid (s : State) : Bool :=
  let b := s.bank0
  b.valid && b.hasData &&
    (Nat.blt s.params.bounceCap b.len ||
     (b.mode == .stream && b.blkcnt != 1) ||
     (b.mode == .stream && Nat.blt s.params.bounceCap (b.len + Config.trailerBytes)) ||
     Nat.blt (2 ^ 32) (b.buf.toNat + b.len))

/-- The request is invalid (R130). -/
def State.requestInvalid (s : State) : Bool :=
  (!s.bank0.valid && !s.bank1.valid) || (s.bank1.valid && s.bank1.hasData) || s.mainDataInvalid

/-- EXEC refuses an invalid request (R130): `InvalidArgument` in each valid bank, the completion pulse, the verdict 6. -/
def State.refuseRequest (s : State) : State :=
  let s1 := if s.bank0.valid then s.raiseCmd .main .invalidArgument else s
  let s2 := if s.bank1.valid then s1.raiseCmd .stop .invalidArgument else s1
  (s2.emit .reqDone).deliver .ok (ErrCode.invalidArgument.num.setWidth 64)

/-- EXEC (R130): the acceptance and validation step; the stages follow, and `X_RELEASE` delivers the result. -/
def execExec (s : State) : Answer :=
  if s.requestInvalid then .next s.refuseRequest
  else .next ((s.setBusy true).setStage .copyIn)

/-- RECOVER (R140): the acceptance step; `S_RECOVOFF` and `S_RECOVON` follow. -/
def execRecover (s : State) : Answer := .next ((s.setBusy true).setPhase .recovOff)

/-! ## The micro-steps of SEND (R112 to R123) -/

/-- S1 `S_EVTRESET` (R112). -/
def stepEvtReset (s : State) : State :=
  let s1 := { s with evtSet := false, evtst := 0#32 }
  let s2 := s1.setCur { s1.cur with err := ⟨.success, .success⟩ }
  s2.setPhase (if s.cur.hasData then .dataProg else .setPend)

/-- S2 `S_DATAPROG` (R113). -/
def stepDataProg (s : State) : State :=
  let b := s.cur
  let s1 := { s with dctl := ⟨false, .toCard, .block⟩ }
  let s2 := if b.crc then s1.appendTrailer 0 b.len else s1
  let s3 := { s2 with dlen := BitVec.ofNat 32 b.effLen, dblk := BitVec.ofNat 32 b.effBlk }
  let s4 := { s3 with dctl := { s3.dctl with dir := b.dir, mode := b.mode } }
  s4.setPhase .dmaArm

/-- S3 `S_DMAARM` (R114): the channel is armed first, the data path enabled second. -/
def stepDmaArm (s : State) : State :=
  let b := s.cur
  let s1 := s.dmaArm b.dir b.effLen (match b.mode with | .stream => .w8 | .block => .w32)
  let s2 := { s1 with dctl := { s1.dctl with en := true } }
  s2.setPhase .setPend

/-- S4 `S_SETPEND` (R115). -/
def stepSetPend (s : State) : State := { s with pend := ⟨true, s.cs⟩ }.setPhase .irqEn

/-- S5 `S_IRQEN` (R116). -/
def stepIrqEn (s : State) : State := (s.setIen (sendEnables s.ien s.cur.hasData)).setPhase .cmdStart

/-- S6 `S_CMDSTART` (R117). -/
def stepCmdStart (s : State) : State :=
  let s1 := { s with cmdargreg := s.cur.arg }
  let s2 := { s1 with cmdreg := (bit true ++ rspSel s.cur.rk ++ s.cur.opc : BitVec 9) }
  { s2 with wcnt := 0#8 }.setPhase .wait

/-- S7 `S_WAIT` (R118, R53): the event wins over the tick limit; with neither ENGINE is held and nothing changes. -/
def stepWait (s : State) : State :=
  if s.evtSet then { s with st := s.evtst, evtSet := false }.setPhase .classify
  else if Config.evtTimeout ≤ s.wcnt.toNat then (s.raiseCmd s.cs .commandTimeout).setPhase .cleanup
  else s

/-- The response words a bank takes in S8 (R119): all four for `Long`, else word 0 only. -/
def Bank.takeResponse (b : Bank) (w0 w1 w2 w3 : Word) : Bank :=
  if b.rk = .long then { b with resp0 := w0, resp1 := w1, resp2 := w2, resp3 := w3 } else { b with resp0 := w0 }

/-- The errors of a bank after S8 (R120): the data error is written only when data is attached. -/
def Bank.classify (b : Bank) (st : Word) : Bank :=
  { b with err := { cmdErr := classifyCmd st b.rk,
                    dataErr := if b.hasData then classifyData st else b.err.dataErr } }

/-- S8 `S_CLASSIFY` (R119, R120). -/
def stepClassify (s : State) : State :=
  let b := s.cur.takeResponse s.hwresp0 s.hwresp1 s.hwresp2 s.hwresp3
  let s1 := s.setCur (b.classify s.st)
  if s.cur.hasData then { s1 with spin := s.params.drainSpinMax }.setPhase .drain
  else s1.setPhase .cleanup

/-- S9 `S_DRAIN` (R121), one iteration of the busy-spin. -/
def stepDrain (s : State) : State :=
  if s.rawsta &&& runMask = 0#32 then
    { s with drainfail := s.rawsta &&& errMask != 0#32 }.setPhase .drainExit
  else if s.spin = 0#32 then { s with drainfail := true }.setPhase .drainExit
  else { s with spin := s.spin - 1#32 }

/-- S10 `S_DRAINEXIT` (R122). -/
def stepDrainExit (s : State) : State :=
  if s.drainfail then (s.dmaDisable.raiseCmd s.cs .busy).setPhase .recovOff
  else s.dmaDisable.setPhase .cleanup

/-- S11 `S_CLEANUP` (R123). -/
def stepCleanup (s : State) : State :=
  let s1 := ((s.setIen (s.ien &&& ~~~errMask)).clearPend).setPhase .idle
  if s.xseq.direct then
    ({ s1 with xseq := { s1.xseq with direct := false } }.setBusy false).deliver .ok (s.cur.err.word.setWidth 64)
  else if s.xseq.stage = .main then s1.setStage .copyOut
  else s1.setStage .release

/-! ## Hard recovery (R141, R142) -/

/-- `S_RECOVOFF` (R141). -/
def stepRecovOff (s : State) : State := (s.setCtlen false).setPhase .recovOn

/-- `S_RECOVON` (R142). -/
def stepRecovOn (s : State) : State :=
  let s1 := s.setCtlen true
  if s.insideSend then s1.setPhase .cleanup
  else ((s1.setPhase .idle).setBusy false).deliver .ok 0#64

/-! ## The stages of EXEC (R131, R133, R135) -/

/-- Whether the main command copies data in this direction (R131, R133). -/
def State.copies (s : State) (d : Dir) : Bool := s.bank0.hasData && s.bank0.dir == d

/-- The copy-in of `X_COPYIN` (R131): `L` bytes from the caller's buffer to offset 0 of `BUF`. DMA steps may
fall between any two of the `L` writes (R43). -/
def copyIn (s : State) : Answer :=
  if s.bank0.valid && s.copies .toCard then
    if !inHostMem s.bank0.buf.toNat s.bank0.len then .fault .hostMemOutOfRange
    else if !s.inBuf 0 s.bank0.len then .fault .bufOutOfRange
    else
      .next { s with
        buf := s.writeBuf s.duringCopy 0 (Mem.readBytes s.hostmem s.bank0.buf.toNat s.bank0.len) s.buf
        duringCopy := [] }
  else .next s

/-- Stage `X_COPYIN` (R131). -/
def stageCopyIn (s : State) : Answer :=
  match copyIn s with
  | .next s1 => .next ((s1.setStage (if s.bank0.valid then .main else .stop)).setPhase .evtReset)
  | .fault f => .fault f
  | .refused r => .refused r

/-- The copy-out of `X_COPYOUT` (R133): `L` bytes from offset 0 of `BUF` to the caller's buffer, never the trailer. DMA
steps may fall between any two of the `L` reads (R43). -/
def copyOut (s : State) : Answer :=
  if s.copies .fromCard then
    if !inHostMem s.bank0.buf.toNat s.bank0.len then .fault .hostMemOutOfRange
    else if !s.inBuf 0 s.bank0.len then .fault .bufOutOfRange
    else
      let r := s.readBuf s.duringCopy 0 s.bank0.len s.buf
      .next { s with
        hostmem := Mem.writeBytes s.hostmem s.bank0.buf.toNat r.1, buf := r.2, duringCopy := [] }
  else .next s

/-- Stage `X_COPYOUT` (R133). -/
def stageCopyOut (s : State) : Answer :=
  match copyOut s with
  | .next s1 =>
    .next (if s.bank1.valid then (s1.setStage .stop).setPhase .evtReset else s1.setStage .release)
  | .fault f => .fault f
  | .refused r => .refused r

/-- Stage `X_RELEASE` (R135): the mutex is released before the completion pulse. -/
def stageRelease (s : State) : State :=
  ((((s.setStage .none).setBusy false).emit .reqDone).deliver .ok (ErrCode.success.num.setWidth 64))

/-! ## Which step ENGINE takes (R136) -/

/-- ENGINE has an enabled step (R136), the held wait of R118 left out. A view: no step reads it, and Laws/Steps.lean shows
that where it is false a scheduled ENGINE leaves the state as it is. -/
def State.engineEnabled (s : State) : Bool :=
  match s.phase with
  | .idle => s.xseq.stage == .copyIn || s.xseq.stage == .copyOut || s.xseq.stage == .release
  | .wait => s.evtSet || Nat.ble Config.evtTimeout s.wcnt.toNat
  | _ => true

/-- The step of a stage, taken when the phase is `IDLE` (R136); `X_NONE`, `X_MAIN` and `X_STOP` have none. -/
def stageStep (s : State) : Answer :=
  match s.xseq.stage with
  | .copyIn  => stageCopyIn s
  | .copyOut => stageCopyOut s
  | .release => .next (stageRelease s)
  | .none | .main | .stop => .next s

/-- One step of ENGINE (R136): the micro-step of the phase, or the step of the stage when the phase is `IDLE`. -/
def engineStep (s : State) : Answer :=
  match s.phase with
  | .idle      => stageStep s
  | .evtReset  => .next (stepEvtReset s)
  | .dataProg  => .next (stepDataProg s)
  | .dmaArm    => .next (stepDmaArm s)
  | .setPend   => .next (stepSetPend s)
  | .irqEn     => .next (stepIrqEn s)
  | .cmdStart  => .next (stepCmdStart s)
  | .wait      => .next (stepWait s)
  | .classify  => .next (stepClassify s)
  | .drain     => .next (stepDrain s)
  | .drainExit => .next (stepDrainExit s)
  | .cleanup   => .next (stepCleanup s)
  | .recovOff  => .next (stepRecovOff s)
  | .recovOn   => .next (stepRecovOn s)

end Sys2Proof.Machine
end

