-- ==== Sys2Proof/Machine/Dispatch.lean ====
section
/-! DEFINITION. Dispatch: one arm for each of the ten operations (R65). -/

namespace Sys2Proof.Machine

open Sys2Proof

-- The operation of an accepted word: all of a single-step operation, the acceptance step of SEND, EXEC and RECOVER.
def exec (i : Instr) (s : State) : Host.Outcome State Fault Refusal :=
  match i with
  | .crc7 nbits data crc => Sys2Proof.Machine.execCrc7 nbits data crc s
  | .crc16 nbits data crc => Sys2Proof.Machine.execCrc16 nbits data crc s
  | .crc16s4 len addr => Sys2Proof.Machine.execCrc16s4 len addr s
  | .rdreg reg => Sys2Proof.Machine.execRdreg reg s
  | .wrreg reg value => Sys2Proof.Machine.execWrreg reg value s
  | .irqen b => Sys2Proof.Machine.execIrqen b s
  | .detect => Sys2Proof.Machine.execDetect s
  | .send slot => Sys2Proof.Machine.execSend slot s
  | .exec => Sys2Proof.Machine.execExec s
  | .recover => Sys2Proof.Machine.execRecover s

end Sys2Proof.Machine
end

