-- ==== Sys2Proof/Machine/Environment.lean ====
section
/-! DEFINITION. The environment agents (`60_exceptions.md`): BUS within the liberties of R185, TICK (R183), a host writing its
own memory, the input `card_present`, and a reset of the block (R200). -/

namespace Sys2Proof.Machine

open Sys2Proof

/-- One liberty of BUS (R185). -/
def busAct (s : State) : BusAct → State
  | .raiseFlags mask => s.setRawsta (s.rawsta ||| mask &&& irqBits)
  | .setRunning tx rx =>
    s.setRawsta (s.rawsta &&& ~~~runMask ||| (if tx then 0x00000080#32 else 0#32) |||
      (if rx then 0x00000100#32 else 0#32))
  | .writeResp i v =>
    match i with
    | 0 => { s with hwresp0 := v }
    | 1 => { s with hwresp1 := v }
    | 2 => { s with hwresp2 := v }
    | 3 => { s with hwresp3 := v }
  | .clearStart => { s with cmdreg := s.cmdreg &&& 0x0FF#9 }
  | .clearRaw mask => if s.ctl.ctlen then s else s.setRawsta (s.rawsta &&& ~~~mask)

/-- One step of BUS (R185): any of its liberties, in the order given, in one atomic step (log entry 9). -/
def busStep (acts : List BusAct) (s : State) : State := acts.foldl busAct s

/-- One step of TICK (R183). -/
def tickStep (s : State) : State :=
  if s.phase = .wait ∧ s.wcnt.toNat < 255 then { s with wcnt := s.wcnt + 1#8 } else s

/-- A host writes one byte of `HOSTMEM` (R10, R32 (c)). -/
def hostWriteStep (a : BitVec 32) (v : Byte) (s : State) : State :=
  { s with hostmem := Mem.write s.hostmem a.toNat v }

/-- The level of `card_present` (R34). -/
def cardStep (b : Bool) (s : State) : State := { s with cardPresent := b }

/-- A reset of the block (R36, R200): every register of R36 as after power-on, the unspecified values drawn, `BUSCFG` as the
last `apply` left it or drawn if none ran, `HOSTMEM` untouched. An operation in progress is abandoned: no result is
delivered and no pulse emitted. What stands outside the block stays (log entry 10). -/
def resetStep (d : ResetDraw) (s : State) : State :=
  { State.reset with
    hwresp0 := d.hwresp0, hwresp1 := d.hwresp1, hwresp2 := d.hwresp2, hwresp3 := d.hwresp3,
    buscfg := if s.busApplied then s.buscfg else busCfgOf d.buscfg,
    buf := Mem.writeBytes [] 0 (d.buf.take s.params.bounceCap),
    hostmem := s.hostmem, cardPresent := s.cardPresent, waiting := s.waiting, out := s.out,
    params := s.params, busApplied := s.busApplied, script := s.script,
    duringCopy := s.duringCopy, freeCount := s.freeCount }

end Sys2Proof.Machine
end

