-- ==== Sys2Proof/Machine/Agents.lean ====
section
/-! DEFINITION. The operation port (R50, R67, R186) and one step of any agent (R8). -/

namespace Sys2Proof.Machine

open Sys2Proof

/-- The port has accepted a word (R67): it is decoded and performed, or answered `IllegalOp`. -/
def acceptWord (w : OpWord) (s : State) : Answer :=
  match decode w with
  | .ok i => exec i s
  | .error _ => .next s.refuseOp

/-- A host presents a word (R50): accepted when `CTL.BUSY = 0`, else the host is held with its word. -/
def presentWord (w : OpWord) (s : State) : Answer :=
  if s.ctl.busy then .next { s with waiting := s.waiting ++ [w] } else acceptWord w s

/-- The port takes the `k`-th held word (R50, R186) when `CTL.BUSY = 0`. -/
def acceptHeld (k : Nat) (s : State) : Answer :=
  if s.ctl.busy then .next s
  else
    match s.waiting[k]? with
    | some w => acceptWord w { s with waiting := s.waiting.eraseIdx k }
    | none => .next s

/-- A held host withdraws its word (vector V4.9). -/
def withdrawHeld (k : Nat) (s : State) : State := { s with waiting := s.waiting.eraseIdx k }

/-- One step of one agent (R8). An agent that has no enabled step leaves the state as it is (log entry 6). -/
def agentStep (e : AgentStep) (s : State) : Answer :=
  match e with
  | .host w        => presentWord w s
  | .accept k      => acceptHeld k s
  | .withdraw k    => .next (withdrawHeld k s)
  | .engine        => engineStep s
  | .isr           => .next (isrStep s)
  | .bus acts      => .next (busStep acts s)
  | .dma i v       => dmaStep i v s
  | .duringCopy g  => .next { s with duringCopy := g }
  | .tick          => .next (tickStep s)
  | .apply c       => .next (applyStep c s)
  | .hostWrite a v => .next (hostWriteStep a v s)
  | .card b        => .next (cardStep b s)
  | .reset d       => .next (resetStep d s)

/-- Which agent steps next, and the state with that choice taken from the schedule: the first of the script, or a free
value when the script is empty (R8, log entry 4). -/
def takeChoice (s : State) : AgentStep × State :=
  match s.script with
  | e :: rest => (e, { s with script := rest })
  | [] => (Config.freeAgent s.freeCount, { s with freeCount := s.freeCount + 1 })

end Sys2Proof.Machine
end

