-- ==== Sys2Proof/Machine/Step.lean ====
section
/-! DEFINITION. The step of the machine: one step of the agent whose turn it is. The block fetches nothing (R11, R54); an
operation word comes to it when a host presents one. -/

namespace Sys2Proof.Machine

open Sys2Proof

/-- One step of the machine (R8, R51). -/
def step (s : State) : Host.Outcome State Fault Refusal := agentStep (takeChoice s).1 (takeChoice s).2

/-- The state in which the very next step is a host presenting the word and the port accepting it (log entry 5): the word
stands first in the schedule, and `CTL.BUSY` is 0, which the port needs to accept (R50). -/
def State.withFetchWord (s : State) (nbits w : Nat) : State :=
  { s with script := .host (BitVec.ofNat 64 (w % 2 ^ nbits)) :: s.script, ctl := { s.ctl with busy := false } }

end Sys2Proof.Machine
end

