-- ==== Sys2Proof/Machine/Asm.lean ====
section
/-! DEFINITION. The assembler notation of `30_encoding.md` R72: an operation as a lower-case mnemonic with its operands, the
register names of R35, and the way back from a line to the operation. A line is kept as data; `AsmLine.text` writes it. -/

namespace Sys2Proof

/-- An operand of an assembler line (R72): a number, or a register name of R35. -/
inductive AsmOperand where
  | num (n : Nat)
  | name (s : String)
  deriving DecidableEq, Repr

/-- A line of the assembler notation (R72) without its comment. -/
structure AsmLine where
  mnemonic : String
  operands : List AsmOperand
  deriving DecidableEq, Repr

/-- The names of the registers of a bank, after `CMDs_` (R12 to R18). -/
def bankRegName : BankReg → String
  | .ctl => "CTL"
  | .arg => "ARG"
  | .blk => "BLK"
  | .buf => "BUF"
  | .err => "ERR"
  | .resp0 => "RESP0"
  | .resp1 => "RESP1"
  | .resp2 => "RESP2"
  | .resp3 => "RESP3"

/-- The register names of R35. -/
def regName : Reg → String
  | .bank .main r => "CMD0_" ++ bankRegName r
  | .bank .stop r => "CMD1_" ++ bankRegName r
  | .seq => "SEQ"
  | .pend => "PEND"
  | .evt => "EVT"
  | .evtst => "EVTST"
  | .ien => "IEN"
  | .rawsta => "RAWSTA"
  | .hwresp 0 => "HWRESP0"
  | .hwresp 1 => "HWRESP1"
  | .hwresp 2 => "HWRESP2"
  | .hwresp 3 => "HWRESP3"
  | .cmdreg => "CMDREG"
  | .cmdargreg => "CMDARGREG"
  | .dlen => "DLEN"
  | .dblk => "DBLK"
  | .dctl => "DCTL"
  | .ctl => "CTL"
  | .codecst => "CODECST"
  | .wcnt => "WCNT"
  | .spin => "SPIN"
  | .xseq => "XSEQ"
  | .dmactl => "DMACTL"
  | .dmalen => "DMALEN"
  | .buscfg => "BUSCFG"

/-- The defined registers, in the order of R35. -/
def allRegs : List Reg :=
  (List.range 256).filterMap (fun n => regOfNum (BitVec.ofNat 8 n))

/-- A register operand (R72): the name of a register or its number. -/
def AsmOperand.regNum : AsmOperand → Option (BitVec 8)
  | .num n => if n < 256 then some (BitVec.ofNat 8 n) else none
  | .name s => (allRegs.find? (fun r => regName r == s)).map numOfReg

/-- A numeric operand that fits `width` bits. -/
def AsmOperand.field (width : Nat) : AsmOperand → Option (BitVec width)
  | .num n => if n < 2 ^ width then some (BitVec.ofNat width n) else none
  | .name _ => none

/-- The line of an operation (R72); a register operand is written as its number. -/
def Instr.asm : Instr → AsmLine
  | .crc7 nbits data crc  => ⟨"crc7", [.num crc.toNat, .num data.toNat, .num nbits.toNat]⟩
  | .crc16 nbits data crc => ⟨"crc16", [.num crc.toNat, .num data.toNat, .num nbits.toNat]⟩
  | .crc16s4 len addr     => ⟨"crc16s4", [.num addr.toNat, .num len.toNat]⟩
  | .rdreg reg            => ⟨"rdreg", [.num reg.toNat]⟩
  | .wrreg reg value      => ⟨"wrreg", [.num reg.toNat, .num value.toNat]⟩
  | .irqen b              => ⟨"irqen", [.num b.toNat]⟩
  | .detect               => ⟨"detect", []⟩
  | .send slot            => ⟨"send", [.num (bitOfSlot slot).toNat]⟩
  | .exec                 => ⟨"exec", []⟩
  | .recover              => ⟨"recover", []⟩

/-- The operation of a line (R72); none for a line that the notation does not have. -/
def AsmLine.instr (l : AsmLine) : Option Instr :=
  match l.mnemonic, l.operands with
  | "crc7", [c, d, n] => do
    let crc ← c.field 7
    let data ← d.field 8
    let nbits ← n.field 4
    pure (.crc7 nbits data crc)
  | "crc16", [c, d, n] => do
    let crc ← c.field 16
    let data ← d.field 8
    let nbits ← n.field 4
    pure (.crc16 nbits data crc)
  | "crc16s4", [a, n] => do
    let addr ← a.field 32
    let len ← n.field 16
    pure (.crc16s4 len addr)
  | "rdreg", [r] => do
    let reg ← r.regNum
    pure (.rdreg reg)
  | "wrreg", [r, v] => do
    let reg ← r.regNum
    let value ← v.field 32
    pure (.wrreg reg value)
  | "irqen", [b] => do
    let e ← b.field 1
    pure (.irqen (e.getLsbD 0))
  | "detect", [] => some .detect
  | "send", [b] => do
    let e ← b.field 1
    pure (.send (slotOfBit (e.getLsbD 0)))
  | "exec", [] => some .exec
  | "recover", [] => some .recover
  | _, _ => none

/-- An operand as text: a decimal number or a register name (R72). -/
def AsmOperand.text : AsmOperand → String
  | .num n => toString n
  | .name s => s

/-- A line as text: the mnemonic, then the operands separated by commas (R72). -/
def AsmLine.text (l : AsmLine) : String :=
  match l.operands with
  | [] => l.mnemonic
  | os => l.mnemonic ++ " " ++ String.intercalate ", " (os.map AsmOperand.text)

end Sys2Proof
end

