-- ==== Sys2Proof/Safety.lean ====
section
/-! DEFINITION. What a safe run is, in the terms the statements use: the invariant of the machine (`Inv`), in three parts
for the two memories, the registers and the control state, and a run under a given schedule of agents. -/

namespace Sys2Proof

/-- The agent step is a reset of the block. -/
def AgentStep.isReset : AgentStep → Bool
  | .reset _ => true
  | _ => false

end Sys2Proof

namespace Sys2Proof.Machine

open Sys2Proof

/-- The two memories keep their canonical form and their address ranges (R32, R46, R47). -/
structure MemInv (s : State) : Prop where
  bufCanonical : Mem.wf s.buf
  bufRange : ∀ p ∈ s.buf, p.1 < s.params.bounceCap
  hostCanonical : Mem.wf s.hostmem
  hostRange : ∀ p ∈ s.hostmem, p.1 < 2 ^ 32

/-- The register values that the rules exclude do not occur. -/
structure RegInv (s : State) : Prop where
  /-- The reserved bits of `RAWSTA` are 0 (R23). -/
  rawstaReserved : s.rawsta &&& ~~~rawBits = 0#32
  /-- The unimplemented bits of `IEN` are 0 (R24). -/
  ienReserved : s.ien &&& ~~~irqBits = 0#32
  /-- The reserved bits of `CMDs_CTL` are 0 (R13). -/
  ctlReserved : ∀ c : Slot, (s.bank c).ctl &&& reservedMask (.bank c .ctl) = 0#32
  /-- `CMDREG.RSPSEL` is never 2 (R26). -/
  rspSelLegal : s.cmdreg.extractLsb' 6 2 ≠ 2#2
  /-- The drain budget is at most `DRAIN_SPIN_MAX` (R30, R121). -/
  spinBound : s.spin.toNat ≤ s.params.drainSpinMax.toNat
  /-- `DATAERR` codes and `CMDERR` codes keep to their fields (R170). -/
  cmdErrField : ∀ c : Slot, (s.bank c).err.cmdErr ≠ .dataCrcError ∧ (s.bank c).err.cmdErr ≠ .dataTimeout
  dataErrField : ∀ c : Slot, (s.bank c).err.dataErr = .success ∨ (s.bank c).err.dataErr = .dataCrcError ∨
    (s.bank c).err.dataErr = .dataTimeout
  /-- An armed channel stays within `BUF` (R153). -/
  dmaBound : s.dmactl.en = true → s.dmalen.toNat ≤ s.params.bounceCap

/-- The phases of a SEND before S5 has enabled its error interrupts. -/
def Phase.beforeEnable (p : Phase) : Prop :=
  p = .idle ∨ p = .evtReset ∨ p = .dataProg ∨ p = .dmaArm ∨ p = .setPend ∨ p = .irqEn

/-- The phases in which the pending reference is set or the event has been signalled (S5, S6 and S7 are next). -/
def Phase.armed (p : Phase) : Prop := p = .irqEn ∨ p = .cmdStart ∨ p = .wait

/-- The phases that only a command with data takes. -/
def Phase.dataOnly (p : Phase) : Prop := p = .dataProg ∨ p = .dmaArm ∨ p = .drain ∨ p = .drainExit

/-- The control state is one the rules allow. -/
structure CtlInv (s : State) : Prop where
  /-- The port accepts only when nothing is in progress (R50, R186). -/
  idleWhenFree : s.ctl.busy = false →
    s.phase = .idle ∧ s.xseq.stage = .none ∧ s.xseq.direct = false ∧ s.pend.valid = false
  /-- `BUSY` is set only while ENGINE has something to do (R50, R136). -/
  workWhenBusy : s.ctl.busy = true → s.phase ≠ .idle ∨ s.xseq.stage ≠ .none
  /-- `X_MAIN` and `X_STOP` with `IDLE` never occur (R136). -/
  sendStage : s.xseq.stage = .main ∨ s.xseq.stage = .stop → s.phase ≠ .idle
  /-- The one-step stages have no phase (R136). -/
  plainStage : s.xseq.stage = .copyIn ∨ s.xseq.stage = .copyOut ∨ s.xseq.stage = .release → s.phase = .idle
  /-- A direct SEND has a phase and no stage (R20, R111, R123). -/
  directSend : s.xseq.direct = true → s.xseq.stage = .none ∧ s.phase ≠ .idle
  /-- Outside SEND only RECOVER has a phase (R140). -/
  recoverOnly : s.insideSend = false → s.phase = .idle ∨ s.phase = .recovOff ∨ s.phase = .recovOn
  /-- The controller is disabled exactly between the two writes of hard recovery (R28, R141, R142). -/
  ctlenOff : s.ctl.ctlen = false ↔ s.phase = .recovOn
  /-- Where the pending reference is set, and to which slot (R115, R118, R123). -/
  pendWhere : s.pend.valid = true →
    (s.phase.armed ∨ s.phase = .cleanup) ∧ s.insideSend = true ∧ s.pend.slot = s.cs
  /-- From S4 to S7 the command is pending until the event is signalled, and then no longer (R53, R176, R177 (b)). -/
  pendOrEvent : s.phase.armed → s.pend.valid = !s.evtSet
  /-- The event has been reset before anything is armed (R52, R112). -/
  eventReset : s.phase = .dataProg ∨ s.phase = .dmaArm ∨ s.phase = .setPend → s.evtSet = false
  /-- The error interrupts are enabled only from S5 to S11 of a SEND (R116, R123). -/
  errorsOff : s.phase.beforeEnable ∨ s.insideSend = false → s.ien &&& errMask = 0#32
  /-- The data phases belong to a command with data (R112, R120). -/
  dataAttached : s.phase.dataOnly → s.cur.hasData = true
  /-- A direct SEND runs an acceptable descriptor (R111). -/
  directOk : s.xseq.direct = true → s.sendOk s.xseq.dslot = true
  /-- EXEC runs a valid request (R130). -/
  requestOk : s.xseq.stage ≠ .none → s.requestInvalid = false
  /-- `X_MAIN` and `X_COPYOUT` belong to a request with a main command (R131, R133). -/
  mainValid : s.xseq.stage = .main ∨ s.xseq.stage = .copyOut → s.bank0.valid = true
  /-- `X_STOP` belongs to a request with a stop command (R131, R133). -/
  stopValid : s.xseq.stage = .stop → s.bank1.valid = true

/-- The invariant of the machine. -/
structure Inv (s : State) : Prop where
  mem : MemInv s
  reg : RegInv s
  ctl : CtlInv s

/-- A run of the machine under a given schedule of agents, stopping at the first stop. -/
def runAgents : List AgentStep → State → Answer
  | [], s => .next s
  | e :: es, s =>
    match agentStep e s with
    | .next t => runAgents es t
    | .fault f => .fault f
    | .refused r => .refused r

/-- The DMA steps of the schedule that come before the accesses number `lo` to `hi - 1` of the next copy of `BUF` (R43). -/
def State.inside (s : State) (lo hi : Nat) : List DmaMove := ((s.duringCopy.take hi).drop lo).flatten

/-- The byte of `BUF` at `a` after DMA steps, where it was `v` before (R153): the last byte moved to `a`, when the channel is
armed from the card and `a` lies in the transfer and in `BUF`. -/
def State.landed (s : State) (moves : List DmaMove) (a : Nat) (v : Byte) : Byte :=
  if s.dmactl.en = true ∧ s.dmactl.dir = .fromCard ∧ a < s.dmalen.toNat ∧ a < s.params.bounceCap then
    (moves.filter (fun m => m.1 == a)).foldl (fun _ m => m.2) v
  else v

/-- The number of results the block has delivered (R66). -/
def State.results (s : State) : Nat :=
  (s.out.filter (fun o => match o with | .result _ _ => true | _ => false)).length

/-- The operation word that a step of this agent makes the port accept (R50); none where it accepts none. -/
def State.acceptedWord (s : State) : AgentStep → Option OpWord
  | .host w => if s.ctl.busy then none else some w
  | .accept k => if s.ctl.busy then none else s.waiting[k]?
  | _ => none

/-- The number of accepted operations whose result is still to come (R50, R66): the port is busy with at most one. -/
def State.inFlight (s : State) : Nat := if s.ctl.busy then 1 else 0

/-- A word that spells one of the ten operations, by its `op` byte and its `zero` fields (R61 to R65, R69 (a)). -/
def spellsOperation (w : OpWord) : Prop :=
  (w.extractLsb' 56 8 = 0x01#8 ∧ w.extractLsb' 28 28 = 0#28 ∧ w.extractLsb' 7 9 = 0#9) ∨
  (w.extractLsb' 56 8 = 0x02#8 ∧ w.extractLsb' 28 28 = 0#28) ∨
  (w.extractLsb' 56 8 = 0x03#8 ∧ w.extractLsb' 48 8 = 0#8) ∨
  (w.extractLsb' 56 8 = 0x10#8 ∧ w.extractLsb' 40 16 = 0#16 ∧ w.extractLsb' 0 32 = 0#32) ∨
  (w.extractLsb' 56 8 = 0x11#8 ∧ w.extractLsb' 40 16 = 0#16) ∨
  ((w.extractLsb' 56 8 = 0x12#8 ∨ w.extractLsb' 56 8 = 0x20#8) ∧ w.extractLsb' 1 55 = 0#55) ∨
  ((w.extractLsb' 56 8 = 0x13#8 ∨ w.extractLsb' 56 8 = 0x21#8 ∨ w.extractLsb' 56 8 = 0x22#8) ∧
    w.extractLsb' 0 56 = 0#56)

/-- A register number that R35 does not list (R37). -/
def undefinedNumber (n : BitVec 8) : Prop :=
  (0x09 ≤ n.toNat ∧ n.toNat ≤ 0x0F) ∨ (0x19 ≤ n.toNat ∧ n.toNat ≤ 0x1F) ∨
  (0x34 ≤ n.toNat ∧ n.toNat ≤ 0x37) ∨ 0x3B ≤ n.toNat

/-- The number of a descriptor register, which the host may write (R35, R101). -/
def descriptorNumber (n : BitVec 8) : Prop :=
  n.toNat ≤ 0x03 ∨ (0x10 ≤ n.toNat ∧ n.toNat ≤ 0x13)

/-- The operand checks of R69 (b). -/
def refusedByValue (s : State) : Instr → Prop
  | .crc7 nbits _ _  => 8 < nbits.toNat
  | .crc16 nbits _ _ => 8 < nbits.toNat
  | .crc16s4 len addr => len.toNat ≤ 512 ∧ s.params.bounceCap < addr.toNat + len.toNat + 8
  | .rdreg reg => undefinedNumber reg
  | .wrreg reg value =>
    undefinedNumber reg ∨ (¬descriptorNumber reg ∧ reg ≠ 0x30#8) ∨
    ((reg = 0x00#8 ∨ reg = 0x10#8) ∧ value &&& 0xFFFFC0C0#32 ≠ 0#32) ∨
    (reg = 0x30#8 ∧ value &&& 0xFFFFFFFE#32 ≠ 0#32)
  | .send slot =>
    (s.bank slot).ctl.getLsbD 0 = false ∨
    ((s.bank slot).ctl.getLsbD 3 = true ∧ s.params.bounceCap < (s.bank slot).effLen)
  | .irqen _ | .detect | .exec | .recover => False

/-- The request in the two banks is invalid, by the list of R130. -/
def invalidRequest (s : State) : Prop :=
  (s.bank0.ctl.getLsbD 0 = false ∧ s.bank1.ctl.getLsbD 0 = false) ∨
  (s.bank1.ctl.getLsbD 0 = true ∧ s.bank1.ctl.getLsbD 3 = true) ∨
  (s.bank0.ctl.getLsbD 0 = true ∧ s.bank0.ctl.getLsbD 3 = true ∧
    (s.params.bounceCap < s.bank0.blkcnt * s.bank0.blksize ∨
     (s.bank0.ctl.getLsbD 5 = true ∧ s.bank0.blkcnt ≠ 1) ∨
     (s.bank0.ctl.getLsbD 5 = true ∧ s.params.bounceCap < s.bank0.blkcnt * s.bank0.blksize + 8) ∨
     2 ^ 32 < s.bank0.buf.toNat + s.bank0.blkcnt * s.bank0.blksize))

/-- The values that the table of R36 states for the block's registers after reset; what the table leaves unspecified
(`HWRESP0..3`, `BUSCFG`, the contents of `BUF`) is not in it. -/
structure ResetTable (s : State) : Prop where
  /-- Descriptors 0, both error fields `Success`, response words 0. -/
  banks : s.bank0 = ⟨0#32, 0#32, 0#32, 0#32, ⟨.success, .success⟩, 0#32, 0#32, 0#32, 0#32⟩ ∧ s.bank1 = s.bank0
  sequencer : s.phase = .idle ∧ s.xseq = ⟨.none, false, .main⟩ ∧ s.pend = ⟨false, .main⟩
  event : s.evtSet = false ∧ s.evtst = 0#32
  interrupts : s.ien = 0#32 ∧ s.rawsta = 0#32
  command : s.cmdreg = 0#9 ∧ s.cmdargreg = 0#32
  data : s.dlen = 0#32 ∧ s.dblk = 0#32 ∧ s.dctl = ⟨false, .toCard, .block⟩
  control : s.ctl = ⟨true, false⟩ ∧ s.ovr = false ∧ s.wcnt = 0#8 ∧ s.spin = 0#32
  dma : s.dmactl = ⟨false, .toCard, .w8⟩ ∧ s.dmalen = 0#32

end Sys2Proof.Machine
end

