-- ==== Sys2Proof/Certificates/Slice0/Obligations.lean ====
section
/-! DEFINITION. The statements for the provers, in the order of OBLIGATIONS.json. A statement about a next state that is
written as one equation of states says the whole effect and the whole frame: every field it does not name is unchanged. -/

section

open Sys2Proof Sys2Proof.Machine

/-! ## Encoding and the port -/

/-- Decoding the encoded word gives the instruction back, at every value of every operand (R61 to R68). -/
def Obligations.DecodeOfEncode : Prop :=
  ∀ i : Instr, decode (encode i) = .ok i

/-- A word that decodes is the word the encoder writes: the decoder drops no bit (R65, R68). -/
def Obligations.EncodeOfDecode : Prop :=
  ∀ (w : OpWord) (i : Instr), decode w = .ok i → encode i = w

/-- Exactly the words that R69 (a) does not call illegal spell an operation; every other word is answered
`(IllegalOp, 0)` and nothing else changes (R67, R69 (a)). -/
def Obligations.IllegalWords : Prop :=
  ∀ (w : OpWord) (s : State),
    (spellsOperation w ↔ ∃ i, decode w = .ok i) ∧
    (¬spellsOperation w → acceptWord w s = .next { s with out := .result .illegalOp 0#64 :: s.out })

/-- Words of the spec's test vectors decode to the operations they stand for, one for each row of R65. -/
def Obligations.SpecWordsDecode : Prop :=
  decode 0x0100000008400000#64 = .ok (.crc7 8#4 0x40#8 0x00#7) ∧
  decode 0x0200000000AB1234#64 = .ok (.crc16 0#4 0xAB#8 0x1234#16) ∧
  decode 0x0300004000000010#64 = .ok (.crc16s4 64#16 0x10#32) ∧
  decode 0x1000002F00000000#64 = .ok (.rdreg 0x2F#8) ∧
  decode 0x1100000000001103#64 = .ok (.wrreg 0x00#8 0x00001103#32) ∧
  decode 0x1200000000000001#64 = .ok (.irqen true) ∧
  decode 0x1300000000000000#64 = .ok .detect ∧
  decode 0x2000000000000001#64 = .ok (.send .stop) ∧
  decode 0x2100000000000000#64 = .ok .exec ∧
  decode 0x2200000000000000#64 = .ok .recover

/-- A step whose agent is a host with a word runs the decoded instruction when the port is free, refuses a word that
spells none, and holds the host when the port is busy; a held word that the port takes runs or is refused in the same
way; and the step after `withFetchWord` runs the word given. That a free port performs or refuses the word and a busy
one holds it is R50 and R67. The rest of each clause is the model's own: the schedule `script` is log entry 4 (DESIGN
CHOICE), `withFetchWord` is log entry 5 (DEDUCED), the list `waiting` and taking its word number `k` are log entry 7
(DEDUCED). -/
def Obligations.StepRunsTheWord : Prop :=
  (∀ (s : State) (w : OpWord) (i : Instr) (rest : List AgentStep),
    s.script = .host w :: rest → s.ctl.busy = false → decode w = .ok i →
    step s = exec i { s with script := rest }) ∧
  (∀ (s : State) (w : OpWord) (e : DecodeError) (rest : List AgentStep),
    s.script = .host w :: rest → s.ctl.busy = false → decode w = .error e →
    step s = .next { s with script := rest, out := .result .illegalOp 0#64 :: s.out }) ∧
  (∀ (s : State) (w : OpWord) (rest : List AgentStep),
    s.script = .host w :: rest → s.ctl.busy = true →
    step s = .next { s with script := rest, waiting := s.waiting ++ [w] }) ∧
  (∀ (s : State) (k : Nat) (w : OpWord) (i : Instr) (rest : List AgentStep),
    s.script = .accept k :: rest → s.ctl.busy = false → s.waiting[k]? = some w → decode w = .ok i →
    step s = exec i { s with script := rest, waiting := s.waiting.eraseIdx k }) ∧
  (∀ (s : State) (k : Nat) (w : OpWord) (e : DecodeError) (rest : List AgentStep),
    s.script = .accept k :: rest → s.ctl.busy = false → s.waiting[k]? = some w → decode w = .error e →
    step s = .next { s with
      script := rest, waiting := s.waiting.eraseIdx k, out := .result .illegalOp 0#64 :: s.out }) ∧
  (∀ (s : State) (nbits w : Nat) (i : Instr), decode (BitVec.ofNat 64 (w % 2 ^ nbits)) = .ok i →
    step (s.withFetchWord nbits w) = exec i { s with ctl := { s.ctl with busy := false } })

/-- While `CTL.BUSY = 1` the port accepts nothing: a presented word is held and changes nothing else, and a held word is
not taken. Acceptance of SEND, EXEC or RECOVER sets `BUSY` in the same step and gives no result yet; every other
outcome of an accepted word leaves `BUSY = 0` (R50, R70). Two parts are the model's own, not the rules': that a held
word joins `waiting` at its end is log entry 7 (DEDUCED), and that a scheduled `accept k` leaves a busy block as it is
is log entry 6 (DEDUCED). -/
def Obligations.PortMutex : Prop :=
  (∀ (s : State) (w : OpWord) (k : Nat), s.ctl.busy = true →
    agentStep (.host w) s = .next { s with waiting := s.waiting ++ [w] } ∧ agentStep (.accept k) s = .next s) ∧
  (∀ (i : Instr) (s t : State), s.ctl.busy = false → exec i s = .next t →
    (t.ctl.busy = true → (i = .send .main ∨ i = .send .stop ∨ i = .exec ∨ i = .recover) ∧ t.out = s.out) ∧
    (t.ctl.busy = false → ∃ code value, t.out.head? = some (.result code value)))

/-- Every operation refuses exactly the operand values that R69 (b) lists: the answer is `(IllegalOperand, 0)` and nothing
else changes. Where none of the checks refuses, the operation is performed (R66, R69 (b), R172). -/
def Obligations.OperandRefusals : Prop :=
  ∀ (i : Instr) (s : State),
    (refusedByValue s i → exec i s = .next { s with out := .result .illegalOperand 0#64 :: s.out }) ∧
    (¬refusedByValue s i → ∃ t, exec i s = .next t ∧
      (t.out = s.out ∨ ∃ value rest, t.out = .result .ok value :: rest))

/-! ## The codec -/

/-- CRC7 (R80, R82): with `c 0` the operand `crc`, and `c (i + 1)` one bit-serial step of `c i` with bit `7 - i` of `data`, the
result is `c nbits`; nothing but the result port changes. -/
def Obligations.Crc7Result : Prop :=
  ∀ (nbits : BitVec 4) (data : Byte) (crc : BitVec 7) (s : State) (c : Nat → BitVec 7),
    nbits.toNat ≤ 8 → c 0 = crc →
    (∀ i, i < nbits.toNat →
      c (i + 1) = if (c i).getLsbD 6 ≠ data.getLsbD (7 - i) then (c i <<< 1) ^^^ 0x09#7 else c i <<< 1) →
    exec (.crc7 nbits data crc) s =
      .next { s with out := .result .ok ((c nbits.toNat).setWidth 64) :: s.out }

/-- CRC16 (R81, R83), as CRC7 with 16 bits and the taps 0x1021. -/
def Obligations.Crc16Result : Prop :=
  ∀ (nbits : BitVec 4) (data : Byte) (crc : BitVec 16) (s : State) (c : Nat → BitVec 16),
    nbits.toNat ≤ 8 → c 0 = crc →
    (∀ i, i < nbits.toNat →
      c (i + 1) = if (c i).getLsbD 15 ≠ data.getLsbD (7 - i) then (c i <<< 1) ^^^ 0x1021#16 else c i <<< 1) →
    exec (.crc16 nbits data crc) s =
      .next { s with out := .result .ok ((c nbits.toNat).setWidth 64) :: s.out }

/-- Polynomial division (R80, R81): after the bits of a message `M` have been fed into an empty register, the register is
the remainder of `M(x) * x^7` by `x^7 + x^3 + 1`, and of `M(x) * x^16` by `x^16 + x^12 + x^5 + 1`, over GF(2). -/
def Obligations.CrcIsPolynomialRemainder : Prop :=
  ∀ bits : List Bool,
    ((Finset.range 7).sum fun j =>
        if (bits.foldl crc7Bit 0#7).getLsbD j then (Polynomial.X ^ j : Polynomial (ZMod 2)) else 0) =
      Polynomial.modByMonic
        (bits.foldl (fun p b => Polynomial.X * p + (if b then 1 else 0)) (0 : Polynomial (ZMod 2)) * Polynomial.X ^ 7)
        (Polynomial.X ^ 7 + Polynomial.X ^ 3 + 1) ∧
    ((Finset.range 16).sum fun j =>
        if (bits.foldl crc16Bit 0#16).getLsbD j then (Polynomial.X ^ j : Polynomial (ZMod 2)) else 0) =
      Polynomial.modByMonic
        (bits.foldl (fun p b => Polynomial.X * p + (if b then 1 else 0)) (0 : Polynomial (ZMod 2)) * Polynomial.X ^ 16)
        (Polynomial.X ^ 16 + Polynomial.X ^ 12 + Polynomial.X ^ 5 + 1)

/-- The laws of the two step operations (R84 (b), (d), (e)): feeding the top `a` bits of a byte and then the next `b` bits is
feeding the top `a + b` bits; the steps are linear over GF(2) for equal lengths; a message followed by its own CRC, most
significant bit first, gives 0. -/
def Obligations.CrcLaws : Prop :=
  (∀ (data : Byte) (a b : Nat), a + b ≤ 8 →
    (∀ c : BitVec 7, crc7Step (crc7Step c data a) (data <<< a) b = crc7Step c data (a + b)) ∧
    (∀ c : BitVec 16, crc16Step (crc16Step c data a) (data <<< a) b = crc16Step c data (a + b))) ∧
  (∀ (d1 d2 : Byte) (k : Nat), k ≤ 8 →
    (∀ c1 c2 : BitVec 7, crc7Step (c1 ^^^ c2) (d1 ^^^ d2) k = crc7Step c1 d1 k ^^^ crc7Step c2 d2 k) ∧
    (∀ c1 c2 : BitVec 16, crc16Step (c1 ^^^ c2) (d1 ^^^ d2) k = crc16Step c1 d1 k ^^^ crc16Step c2 d2 k)) ∧
  (∀ bits : List Bool,
    ((List.range 7).map fun i => (bits.foldl crc7Bit 0#7).getLsbD (6 - i)).foldl crc7Bit (bits.foldl crc7Bit 0#7) = 0#7 ∧
    ((List.range 16).map fun i => (bits.foldl crc16Bit 0#16).getLsbD (15 - i)).foldl crc16Bit
      (bits.foldl crc16Bit 0#16) = 0#16)

/-- The lanes (R85, R86, R87): lane `k` carries, of byte `n`, bit `k + 4` and then bit `k`; its CRC through packed lane bytes
with a partial last step is the fold of `Crc16Bit` over those bits. -/
def Obligations.LaneCrcs : Prop :=
  ∀ (k : Nat) (bytes : List Byte),
    (laneBits k bytes).length = 2 * bytes.length ∧
    (∀ n (h : n < bytes.length),
      (laneBits k bytes)[2 * n]? = some (bytes[n].getLsbD (k + 4)) ∧
      (laneBits k bytes)[2 * n + 1]? = some (bytes[n].getLsbD k)) ∧
    laneCrcPacked k bytes = (laneBits k bytes).foldl crc16Bit 0x0000#16 ∧
    laneCrc k bytes = laneCrcPacked k bytes

/-- The layout of the trailer (R88): byte `j` carries bits `15 - 2j` and `14 - 2j` of each lane's CRC, and de-interleaving the
trailer gives back the sixteen bits of each lane's CRC from bit 15 down. -/
def Obligations.TrailerLayout : Prop :=
  ∀ (bytes : List Byte) (k : Nat), k < 4 →
    (s4Trailer bytes).length = 8 ∧
    (∀ j, j < 8 →
      ((s4Trailer bytes).getD j 0#8).getLsbD (k + 4) = (laneCrc k bytes).getLsbD (15 - 2 * j) ∧
      ((s4Trailer bytes).getD j 0#8).getLsbD k = (laneCrc k bytes).getLsbD (14 - 2 * j)) ∧
    laneBits k (s4Trailer bytes) = (List.range 16).map fun i => (laneCrc k bytes).getLsbD (15 - i)

/-- The round trip of R92: de-interleaving data and trailer together and running the reference CRC over each lane, packed
into bytes, gives 0 on every lane. -/
def Obligations.TrailerResidue : Prop :=
  ∀ (bytes : List Byte) (k : Nat), k < 4 → laneCrcPacked k (bytes ++ s4Trailer bytes) = 0x0000#16

/-- CRC16S4 (R90, R217): it answers `(OK, 0)`, the eight bytes behind the data are the trailer of the data, and every other
byte of `BUF` and everything else is unchanged, but for what an armed DMA agent moves between the accesses of the copy
(R43): a byte is read as the DMA steps before its read left it, and a DMA step after a write replaces the byte written.
The list `duringCopy`, which names those steps and which the copy uses up, is the model's own (log entry 23). -/
def Obligations.Crc16s4Appends : Prop :=
  ∀ (len : BitVec 16) (addr : BitVec 32) (s : State),
    len.toNat ≤ 512 → addr.toNat + len.toNat + 8 ≤ s.params.bounceCap →
    ∃ t, exec (.crc16s4 len addr) s = .next t ∧ t.duringCopy = [] ∧
      { t with buf := s.buf, duringCopy := s.duringCopy } = { s with out := .result .ok 0#64 :: s.out } ∧
      ∀ a, Mem.read t.buf a =
        if addr.toNat + len.toNat ≤ a ∧ a < addr.toNat + len.toNat + 8 then
          s.landed (s.inside (a - addr.toNat + 1) (len.toNat + 8)) a
            ((s4Trailer ((List.range len.toNat).map fun i =>
              s.landed (s.inside 0 (i + 1)) (addr.toNat + i) (Mem.read s.buf (addr.toNat + i)))).getD
                (a - (addr.toNat + len.toNat)) 0#8)
        else s.landed (s.inside 0 (len.toNat + 8)) a (Mem.read s.buf a)

/-- CRC16S4 above the ceiling (R91): whatever the address, it answers `(OK, 0)`, sets `CODECST.OVR` and does nothing else. -/
def Obligations.Crc16s4OverCeiling : Prop :=
  ∀ (len : BitVec 16) (addr : BitVec 32) (s : State), 512 < len.toNat →
    exec (.crc16s4 len addr) s = .next { s with ovr := true, out := .result .ok 0#64 :: s.out }

/-! ## Register access -/

/-- RDREG (R100) of every defined number (R35): the value put on the result port, bit by bit where a register has fields;
nothing else changes (R44). -/
def Obligations.RegisterReads : Prop :=
  ∀ s : State,
    (∀ (n : BitVec 8) (v : Nat),
      ((n, v) ∈
        [ (0x00#8, (s.bank0.ctl &&& 0x3F3F#32).toNat), (0x01#8, s.bank0.arg.toNat), (0x02#8, s.bank0.blk.toNat),
          (0x03#8, s.bank0.buf.toNat), (0x04#8, s.bank0.err.cmdErr.num.toNat + 256 * s.bank0.err.dataErr.num.toNat),
          (0x05#8, s.bank0.resp0.toNat), (0x06#8, s.bank0.resp1.toNat), (0x07#8, s.bank0.resp2.toNat),
          (0x08#8, s.bank0.resp3.toNat) ] ∨
       (n, v) ∈
        [ (0x10#8, (s.bank1.ctl &&& 0x3F3F#32).toNat), (0x11#8, s.bank1.arg.toNat), (0x12#8, s.bank1.blk.toNat),
          (0x13#8, s.bank1.buf.toNat), (0x14#8, s.bank1.err.cmdErr.num.toNat + 256 * s.bank1.err.dataErr.num.toNat),
          (0x15#8, s.bank1.resp0.toNat), (0x16#8, s.bank1.resp1.toNat), (0x17#8, s.bank1.resp2.toNat),
          (0x18#8, s.bank1.resp3.toNat) ] ∨
       (n, v) ∈
        [ (0x20#8, s.phase.num.toNat), (0x21#8, s.pend.valid.toNat + 2 * (bitOfSlot s.pend.slot).toNat),
          (0x22#8, s.evtSet.toNat), (0x23#8, s.evtst.toNat), (0x24#8, (s.ien &&& 0x27F#32).toNat),
          (0x25#8, (s.rawsta &&& 0x3FF#32).toNat), (0x26#8, s.hwresp0.toNat), (0x27#8, s.hwresp1.toNat),
          (0x28#8, s.hwresp2.toNat), (0x29#8, s.hwresp3.toNat), (0x2A#8, s.cmdreg.toNat) ] ∨
       (n, v) ∈
        [ (0x2B#8, s.cmdargreg.toNat), (0x2C#8, s.dlen.toNat), (0x2D#8, s.dblk.toNat),
          (0x2E#8, s.dctl.en.toNat + 2 * (dirBit s.dctl.dir).toNat + 4 * (modeBit s.dctl.mode).toNat),
          (0x2F#8, s.ctl.ctlen.toNat + 2 * s.ctl.busy.toNat), (0x30#8, s.ovr.toNat), (0x31#8, s.wcnt.toNat),
          (0x32#8, s.spin.toNat),
          (0x33#8, s.xseq.stage.num.toNat + 8 * s.xseq.direct.toNat + 16 * (bitOfSlot s.xseq.dslot).toNat) ] ∨
       (n, v) ∈
        [ (0x38#8, s.dmactl.en.toNat + 2 * (dirBit s.dmactl.dir).toNat + 4 * (memWidthCode s.dmactl.mwidth).toNat),
          (0x39#8, s.dmalen.toNat),
          (0x3A#8, s.buscfg.clkdiv.toNat + 256 * s.buscfg.width.toNat + 1024 * s.buscfg.pwr.toNat +
            4096 * s.buscfg.clken.toNat + 8192 * s.buscfg.hwgate.toNat) ]) →
      exec (.rdreg n) s = .next { s with out := .result .ok (BitVec.ofNat 64 v) :: s.out })

/-- An undefined register number is refused by RDREG and by WRREG and changes nothing (R37). -/
def Obligations.UndefinedRegisterNumbers : Prop :=
  ∀ (n : BitVec 8) (v : Word) (s : State), undefinedNumber n →
    exec (.rdreg n) s = .next { s with out := .result .illegalOperand 0#64 :: s.out } ∧
    exec (.wrreg n v) s = .next { s with out := .result .illegalOperand 0#64 :: s.out }

/-- WRREG (R101): the descriptor registers of the two banks take the value whole when it writes no reserved bit, `CODECST`
is write one to clear, and every other write is refused; nothing but the named register and the result port changes. -/
def Obligations.WrregWrites : Prop :=
  ∀ (v : Word) (s : State),
    (v &&& 0xFFFFC0C0#32 = 0#32 →
      exec (.wrreg 0x00#8 v) s =
        .next { s with bank0 := { s.bank0 with ctl := v }, out := .result .ok 0#64 :: s.out } ∧
      exec (.wrreg 0x10#8 v) s =
        .next { s with bank1 := { s.bank1 with ctl := v }, out := .result .ok 0#64 :: s.out }) ∧
    (exec (.wrreg 0x01#8 v) s =
        .next { s with bank0 := { s.bank0 with arg := v }, out := .result .ok 0#64 :: s.out } ∧
      exec (.wrreg 0x11#8 v) s =
        .next { s with bank1 := { s.bank1 with arg := v }, out := .result .ok 0#64 :: s.out }) ∧
    (exec (.wrreg 0x02#8 v) s =
        .next { s with bank0 := { s.bank0 with blk := v }, out := .result .ok 0#64 :: s.out } ∧
      exec (.wrreg 0x12#8 v) s =
        .next { s with bank1 := { s.bank1 with blk := v }, out := .result .ok 0#64 :: s.out }) ∧
    (exec (.wrreg 0x03#8 v) s =
        .next { s with bank0 := { s.bank0 with buf := v }, out := .result .ok 0#64 :: s.out } ∧
      exec (.wrreg 0x13#8 v) s =
        .next { s with bank1 := { s.bank1 with buf := v }, out := .result .ok 0#64 :: s.out }) ∧
    (v &&& 0xFFFFFFFE#32 = 0#32 →
      exec (.wrreg 0x30#8 v) s =
        .next { s with ovr := if v = 1#32 then false else s.ovr, out := .result .ok 0#64 :: s.out }) ∧
    (v &&& 0xFFFFC0C0#32 ≠ 0#32 → ∀ n, n = 0x00#8 ∨ n = 0x10#8 →
      exec (.wrreg n v) s = .next { s with out := .result .illegalOperand 0#64 :: s.out }) ∧
    (v &&& 0xFFFFFFFE#32 ≠ 0#32 →
      exec (.wrreg 0x30#8 v) s = .next { s with out := .result .illegalOperand 0#64 :: s.out }) ∧
    (∀ n, ¬descriptorNumber n → n ≠ 0x30#8 →
      exec (.wrreg n v) s = .next { s with out := .result .illegalOperand 0#64 :: s.out })

/-- IRQEN (R102): `IEN` bit 9 becomes the operand, the other bits of `IEN` and everything else are unchanged. The premise is
the reserved part of `IEN` (R24), which every step keeps. -/
def Obligations.IrqenResult : Prop :=
  ∀ (b : Bool) (s : State), s.ien &&& ~~~0x27F#32 = 0#32 →
    ∃ t, exec (.irqen b) s = .next t ∧
      { t with ien := s.ien } = { s with out := .result .ok 0#64 :: s.out } ∧
      ∀ j, t.ien.getLsbD j = if j = 9 then b else s.ien.getLsbD j

/-- DETECT (R103): the level of `card_present`, and nothing else changes. -/
def Obligations.DetectResult : Prop :=
  ∀ s : State,
    exec .detect s = .next { s with out := .result .ok (if s.cardPresent then 1#64 else 0#64) :: s.out }

/-! ## SEND -/

/-- The effective length and block size (R127), and the response-length selector (R126). -/
def Obligations.EffectiveLength : Prop :=
  (∀ b : Bank,
    b.blksize = b.blk.toNat % 2 ^ 16 ∧ b.blkcnt = b.blk.toNat / 2 ^ 16 ∧
    (b.ctl.getLsbD 3 = false → b.len = 0 ∧ b.crc = false ∧ b.effLen = 0 ∧ b.effBlk = b.blksize) ∧
    (b.ctl.getLsbD 3 = true → b.len = b.blkcnt * b.blksize ∧
      if b.ctl.getLsbD 5 = true ∧ b.ctl.getLsbD 4 = false ∧ b.blkcnt = 1 ∧ b.blkcnt * b.blksize ≤ 512 then
        b.crc = true ∧ b.effLen = b.blkcnt * b.blksize + 8 ∧ b.effBlk = b.blksize + 8
      else b.crc = false ∧ b.effLen = b.blkcnt * b.blksize ∧ b.effBlk = b.blksize)) ∧
  rspSel .none = 0#2 ∧ rspSel .short = 1#2 ∧ rspSel .shortNoCrc = 1#2 ∧ rspSel .long = 3#2

/-- SEND is accepted (R111) when the descriptor of its slot is valid and its data, if any, fits in `BUF`. -/
def Obligations.SendAccepted : Prop :=
  ∀ (c : Slot) (s : State), (s.bank c).ctl.getLsbD 0 = true →
    ((s.bank c).ctl.getLsbD 3 = true → (s.bank c).effLen ≤ s.params.bounceCap) →
    exec (.send c) s = .next { s with
      ctl := { s.ctl with busy := true },
      xseq := { s.xseq with direct := true, dslot := c },
      phase := .evtReset }

/-- S1 (R112), and which slot is the current one in it and in every later micro-step (`42_sequencer.md`, before R110):
`DSLOT` when `DIRECT = 1`, else slot 0 in `X_MAIN`, else slot 1. -/
def Obligations.StepEvtReset : Prop :=
  ∀ s : State,
    (s.xseq.direct = true → s.cs = s.xseq.dslot) ∧
    (s.xseq.direct = false → s.xseq.stage = .main → s.cs = .main) ∧
    (s.xseq.direct = false → s.xseq.stage ≠ .main → s.cs = .stop) ∧
    (s.phase = .evtReset →
      agentStep .engine s =
        .next { s.setBank s.cs { s.bank s.cs with err := ⟨.success, .success⟩ } with
          evtSet := false, evtst := 0#32,
          phase := if (s.bank s.cs).ctl.getLsbD 3 then .dataProg else .setPend })

/-- S2 (R113): `DCTL` is cleared and takes direction and mode with `EN = 0`, the lengths are the effective ones, and where
`crc` holds the trailer of the first `L` bytes of `BUF` is written behind them; every other byte is unchanged, but for
what a channel that an earlier command left armed moves between the accesses of the trailer (R43, R206). The list
`duringCopy` of those DMA steps is the model's own (log entry 23). -/
def Obligations.StepDataProg : Prop :=
  ∀ s : State, s.phase = .dataProg →
    ∃ t, agentStep .engine s = .next t ∧
      t.duringCopy = (if (s.bank s.cs).crc then [] else s.duringCopy) ∧
      { t with buf := s.buf, duringCopy := s.duringCopy } = { s with
        dctl := ⟨false, (s.bank s.cs).dir, (s.bank s.cs).mode⟩,
        dlen := BitVec.ofNat 32 (s.bank s.cs).effLen,
        dblk := BitVec.ofNat 32 (s.bank s.cs).effBlk,
        phase := .dmaArm } ∧
      ∀ a, Mem.read t.buf a =
        if (s.bank s.cs).crc = false then Mem.read s.buf a
        else if (s.bank s.cs).len ≤ a ∧ a < (s.bank s.cs).len + 8 then
          s.landed (s.inside (a + 1) ((s.bank s.cs).len + 8)) a
            ((s4Trailer ((List.range (s.bank s.cs).len).map fun i =>
              s.landed (s.inside 0 (i + 1)) i (Mem.read s.buf i))).getD (a - (s.bank s.cs).len) 0#8)
        else s.landed (s.inside 0 ((s.bank s.cs).len + 8)) a (Mem.read s.buf a)

/-- S3 (R114) with `DMA.arm` (R151). -/
def Obligations.StepDmaArm : Prop :=
  ∀ s : State, s.phase = .dmaArm →
    agentStep .engine s = .next { s with
      dmactl := ⟨true, (s.bank s.cs).dir, if (s.bank s.cs).mode = .stream then .w8 else .w32⟩,
      dmalen := BitVec.ofNat 32 (s.bank s.cs).effLen,
      dctl := { s.dctl with en := true },
      phase := .setPend }

/-- S4 (R115), with the current slot written out as `42_sequencer.md` defines it before R110. -/
def Obligations.StepSetPend : Prop :=
  ∀ s : State, s.phase = .setPend →
    agentStep .engine s = .next { s with
      pend := ⟨true, if s.xseq.direct then s.xseq.dslot else if s.xseq.stage = .main then .main else .stop⟩,
      phase := .irqEn }

/-- S5 (R116). -/
def Obligations.StepIrqEn : Prop :=
  ∀ s : State, s.phase = .irqEn →
    agentStep .engine s = .next { s with
      ien := (s.ien &&& 0x00000200#32) ||| 0x0000000F#32 ||| 0x00000030#32 |||
        (if (s.bank s.cs).ctl.getLsbD 3 then 0x00000040#32 else 0#32),
      phase := .cmdStart }

/-- S6 (R117, R126). -/
def Obligations.StepCmdStart : Prop :=
  ∀ s : State, s.phase = .cmdStart →
    ∃ r : BitVec 9,
      agentStep .engine s = .next { s with
        cmdargreg := (s.bank s.cs).arg, cmdreg := r, wcnt := 0#8, phase := .wait } ∧
      r.getLsbD 8 = true ∧
      r.extractLsb' 0 6 = (s.bank s.cs).ctl.extractLsb' 8 6 ∧
      r.extractLsb' 6 2 =
        if (s.bank s.cs).ctl.extractLsb' 1 2 = 0#2 then 0#2
        else if (s.bank s.cs).ctl.extractLsb' 1 2 = 3#2 then 3#2 else 1#2

/-- S7 (R118, R53): the event wins; else five ticks time the command out; else ENGINE is held. R118 says that a held
ENGINE has no step; that a scheduled ENGINE then leaves the state as it is is log entry 6 (DEDUCED), the model's own. -/
def Obligations.StepWait : Prop :=
  ∀ s : State, s.phase = .wait →
    (s.evtSet = true →
      agentStep .engine s = .next { s with st := s.evtst, evtSet := false, phase := .classify }) ∧
    (s.evtSet = false → 5 ≤ s.wcnt.toNat →
      agentStep .engine s =
        .next { s.setBank s.cs { s.bank s.cs with err := { (s.bank s.cs).err with cmdErr := .commandTimeout } } with
          phase := .cleanup }) ∧
    (s.evtSet = false → s.wcnt.toNat < 5 → agentStep .engine s = .next s)

/-- S8 (R119, R120): the response words and the two errors. -/
def Obligations.StepClassify : Prop :=
  ∀ s : State, s.phase = .classify →
    agentStep .engine s =
      .next { s.setBank s.cs { s.bank s.cs with
          resp0 := s.hwresp0,
          resp1 := if (s.bank s.cs).ctl.extractLsb' 1 2 = 3#2 then s.hwresp1 else (s.bank s.cs).resp1,
          resp2 := if (s.bank s.cs).ctl.extractLsb' 1 2 = 3#2 then s.hwresp2 else (s.bank s.cs).resp2,
          resp3 := if (s.bank s.cs).ctl.extractLsb' 1 2 = 3#2 then s.hwresp3 else (s.bank s.cs).resp3,
          err := {
            cmdErr :=
              if s.st.getLsbD 2 then .commandTimeout
              else if s.st.getLsbD 0 = true ∧ (s.bank s.cs).ctl.extractLsb' 1 2 ≠ 2#2 then .commandCrcError
              else .success,
            dataErr :=
              if (s.bank s.cs).ctl.getLsbD 3 = false then (s.bank s.cs).err.dataErr
              else if s.st.getLsbD 3 then .dataTimeout
              else if s.st.getLsbD 1 then .dataCrcError
              else .success } } with
        spin := if (s.bank s.cs).ctl.getLsbD 3 then s.params.drainSpinMax else s.spin,
        phase := if (s.bank s.cs).ctl.getLsbD 3 then .drain else .cleanup }

/-- S9 (R121), one iteration of the drain. -/
def Obligations.StepDrain : Prop :=
  ∀ s : State, s.phase = .drain →
    (s.rawsta &&& 0x180#32 = 0#32 → s.rawsta &&& 0xF#32 ≠ 0#32 →
      agentStep .engine s = .next { s with drainfail := true, phase := .drainExit }) ∧
    (s.rawsta &&& 0x180#32 = 0#32 → s.rawsta &&& 0xF#32 = 0#32 →
      agentStep .engine s = .next { s with drainfail := false, phase := .drainExit }) ∧
    (s.rawsta &&& 0x180#32 ≠ 0#32 → s.spin = 0#32 →
      agentStep .engine s = .next { s with drainfail := true, phase := .drainExit }) ∧
    (s.rawsta &&& 0x180#32 ≠ 0#32 → s.spin ≠ 0#32 →
      agentStep .engine s = .next { s with spin := s.spin - 1#32 })

/-- The budget of the drain (R121, R184), over every agent: in `S_DRAIN` a step of another agent, a reset left out, changes
neither `SPIN` nor the phase, and a step of ENGINE spends one unit of `SPIN` or goes to `S_DRAINEXIT`. Hence every
schedule without a reset in which ENGINE steps `SPIN + 1` times comes to `S_DRAINEXIT`, whatever the other agents do
in between. The last clause is the run of ENGINE steps alone, in which no flag of `RAWSTA` can change: with a running
flag raised the drain then fails with the budget spent. The premise `BUSY = 1` is part of the invariant
(`CtlInv.idleWhenFree`). -/
def Obligations.DrainEnds : Prop :=
  (∀ (s t : State) (e : AgentStep), s.phase = .drain → s.ctl.busy = true → e.isReset = false →
    agentStep e s = .next t →
    (e ≠ .engine → t.phase = .drain ∧ t.spin = s.spin) ∧
    (e = .engine →
      (t.phase = .drain ∧ t.spin.toNat + 1 = s.spin.toNat) ∨ (t.phase = .drainExit ∧ t.spin = s.spin))) ∧
  (∀ (s t : State) (es : List AgentStep), s.phase = .drain → s.ctl.busy = true →
    (∀ e ∈ es, e.isReset = false) → s.spin.toNat + 1 ≤ es.count .engine → runAgents es s = .next t →
    ∃ before rest u, es = before ++ rest ∧ before.count .engine ≤ s.spin.toNat + 1 ∧
      runAgents before s = .next u ∧ u.phase = .drainExit) ∧
  (∀ s : State, s.phase = .drain →
    ∃ k t, 1 ≤ k ∧ k ≤ s.spin.toNat + 1 ∧
      runAgents (List.replicate k .engine) s = .next t ∧ t.phase = .drainExit ∧
      (s.rawsta &&& 0x180#32 ≠ 0#32 → t.drainfail = true ∧ t.spin = 0#32))

/-- S10 (R122) with `DMA.disable` (R156). -/
def Obligations.StepDrainExit : Prop :=
  ∀ s : State, s.phase = .drainExit →
    (s.drainfail = true →
      agentStep .engine s =
        .next { s.setBank s.cs { s.bank s.cs with err := { (s.bank s.cs).err with cmdErr := .busy } } with
          dmactl := { s.dmactl with en := false }, phase := .recovOff }) ∧
    (s.drainfail = false →
      agentStep .engine s = .next { s with dmactl := { s.dmactl with en := false }, phase := .cleanup })

/-- S11 (R123): the error enables and the pending mark are cleared; then the port, or the next stage of EXEC. The premise
is the reserved part of `IEN` (R24), which every step keeps. -/
def Obligations.StepCleanup : Prop :=
  ∀ s : State, s.phase = .cleanup → s.ien &&& ~~~0x27F#32 = 0#32 →
    (s.xseq.direct = true →
      ∃ value : BitVec 64,
        agentStep .engine s = .next { s with
          ien := s.ien &&& ~~~0x0000000F#32, pend := { s.pend with valid := false }, phase := .idle,
          xseq := { s.xseq with direct := false }, ctl := { s.ctl with busy := false },
          out := .result .ok value :: s.out } ∧
        value.toNat = (s.bank s.cs).err.cmdErr.num.toNat + 256 * (s.bank s.cs).err.dataErr.num.toNat) ∧
    (s.xseq.direct = false →
      agentStep .engine s = .next { s with
        ien := s.ien &&& ~~~0x0000000F#32, pend := { s.pend with valid := false }, phase := .idle,
        xseq := { s.xseq with stage := if s.xseq.stage = .main then .copyOut else .release } })

/-- A direct SEND whose card never answers ends (R118, R124, R183), on the schedule that has ENGINE program the command, then
five ticks, then ENGINE again: it ends with `CommandTimeout`, the four response words of the slot are unchanged, a
channel that was armed stays armed, the mutex is released and no command is pending. -/
def Obligations.SendWithoutAnswerTimesOut : Prop :=
  ∀ s : State, s.phase = .evtReset → s.xseq.direct = true →
    ∃ t,
      runAgents
        (List.replicate (if (s.bank s.cs).ctl.getLsbD 3 then 6 else 4) .engine ++ List.replicate 5 .tick ++
          List.replicate 2 .engine) s = .next t ∧
      t.out = .result .ok 2#64 :: s.out ∧
      (t.bank s.cs).err = ⟨.commandTimeout, .success⟩ ∧
      (t.bank s.cs).resp0 = (s.bank s.cs).resp0 ∧ (t.bank s.cs).resp1 = (s.bank s.cs).resp1 ∧
      (t.bank s.cs).resp2 = (s.bank s.cs).resp2 ∧ (t.bank s.cs).resp3 = (s.bank s.cs).resp3 ∧
      t.phase = .idle ∧ t.ctl.busy = false ∧ t.pend.valid = false ∧
      t.ien = ((s.ien &&& 0x200#32) ||| if (s.bank s.cs).ctl.getLsbD 3 then 0x070#32 else 0x030#32) ∧
      t.dmactl.en = (if (s.bank s.cs).ctl.getLsbD 3 then true else s.dmactl.en) ∧
      t.dctl.en = (if (s.bank s.cs).ctl.getLsbD 3 then true else s.dctl.en)

/-- A direct SEND without data, with no stale flag, whose card answers well succeeds (R124, R176), on the schedule that has
the controller write response word 0 and raise `CMDREND`, then the ISR signal, then ENGINE end it: the result is
`Success`, word 0 is in the result slot, words 1 to 3 are read for a `Long` response and unchanged otherwise, and the
data path (`DCTL`, `DLEN`, `DBLK`, `DMACTL`, `DMALEN`, `BUF`) keeps its values. -/
def Obligations.SendWithAnswerSucceeds : Prop :=
  ∀ (s : State) (v : Word), s.phase = .evtReset → s.xseq.direct = true → (s.bank s.cs).ctl.getLsbD 3 = false →
    s.rawsta = 0#32 →
    ∃ t,
      runAgents
        (List.replicate 4 .engine ++ [.bus [.writeResp 0 v, .raiseFlags 0x10#32], .isr] ++
          List.replicate 3 .engine) s = .next t ∧
      t.out = .result .ok 0#64 :: s.out ∧
      (t.bank s.cs).err = ⟨.success, .success⟩ ∧ (t.bank s.cs).resp0 = v ∧
      ((t.bank s.cs).resp1, (t.bank s.cs).resp2, (t.bank s.cs).resp3) =
        (if (s.bank s.cs).ctl.extractLsb' 1 2 = 3#2 then (s.hwresp1, s.hwresp2, s.hwresp3)
         else ((s.bank s.cs).resp1, (s.bank s.cs).resp2, (s.bank s.cs).resp3)) ∧
      t.phase = .idle ∧ t.ctl.busy = false ∧ t.pend.valid = false ∧ t.evtSet = false ∧ t.rawsta = 0#32 ∧
      t.ien = ((s.ien &&& 0x200#32) ||| 0x030#32) ∧
      t.dctl = s.dctl ∧ t.dlen = s.dlen ∧ t.dblk = s.dblk ∧
      t.dmactl = s.dmactl ∧ t.dmalen = s.dmalen ∧ t.buf = s.buf

/-! ## EXEC -/

/-- EXEC (R130): a valid request takes the port and the copy-in is next; an invalid one writes `InvalidArgument` in each
valid bank, emits one `req_done` pulse, answers `(OK, 6)`, and changes nothing else, so the port stays free. That `out`
records the pulse before the result of the same step is the model's choice (log entry 8, DESIGN CHOICE). -/
def Obligations.ExecAcceptance : Prop :=
  ∀ s : State,
    (¬invalidRequest s →
      exec .exec s = .next { s with ctl := { s.ctl with busy := true }, xseq := { s.xseq with stage := .copyIn } }) ∧
    (invalidRequest s →
      exec .exec s = .next { s with
        bank0 := if s.bank0.ctl.getLsbD 0 then { s.bank0 with err := { s.bank0.err with cmdErr := .invalidArgument } }
          else s.bank0,
        bank1 := if s.bank1.ctl.getLsbD 0 then { s.bank1 with err := { s.bank1.err with cmdErr := .invalidArgument } }
          else s.bank1,
        out := .result .ok 6#64 :: .reqDone :: s.out })

/-- Stage `X_COPYIN` (R131): for data to the card the caller's bytes are in `BUF` from offset 0, every other byte of `BUF` is
unchanged, and the first command that is present is next. A channel that an earlier command left armed may move bytes
between the writes of the copy (R43, R206): a byte it moves after the copy wrote there stays. The premise is the
validation of R130. The list `duringCopy` of those DMA steps is the model's own (log entry 23). -/
def Obligations.StageCopyIn : Prop :=
  ∀ (s : State) (copied : Prop), s.phase = .idle → s.xseq.stage = .copyIn → ¬invalidRequest s →
    (copied ↔ s.bank0.ctl.getLsbD 0 = true ∧ s.bank0.ctl.getLsbD 3 = true ∧ s.bank0.ctl.getLsbD 4 = false) →
    ∃ t, agentStep .engine s = .next t ∧
      { t with buf := s.buf, duringCopy := s.duringCopy } = { s with
        xseq := { s.xseq with stage := if s.bank0.ctl.getLsbD 0 then .main else .stop }, phase := .evtReset } ∧
      (¬copied → t.duringCopy = s.duringCopy ∧ ∀ a, Mem.read t.buf a = Mem.read s.buf a) ∧
      (copied → t.duringCopy = [] ∧ ∀ a, Mem.read t.buf a =
        if a < s.bank0.blkcnt * s.bank0.blksize then
          s.landed (s.inside (a + 1) (s.bank0.blkcnt * s.bank0.blksize)) a
            (Mem.read s.hostmem (s.bank0.buf.toNat + a))
        else s.landed (s.inside 0 (s.bank0.blkcnt * s.bank0.blksize)) a (Mem.read s.buf a))

/-- Stage `X_COPYOUT` (R133, R47): for data from the card the first `L` bytes of `BUF` are in the caller's buffer, every other
byte of `HOSTMEM` is unchanged, and the stop command or the release is next. A channel left armed may move bytes between
the reads of the copy (R43, R56): each byte is copied as it stands when it is read, and `BUF` is as the DMA steps leave
it. The premises are the validation of R130 and that the request has a main command, without which the stage is not
reached. The list `duringCopy` of those DMA steps is the model's own (log entry 23). -/
def Obligations.StageCopyOut : Prop :=
  ∀ (s : State) (copied : Prop),
    s.phase = .idle → s.xseq.stage = .copyOut → ¬invalidRequest s → s.bank0.ctl.getLsbD 0 = true →
    (copied ↔ s.bank0.ctl.getLsbD 3 = true ∧ s.bank0.ctl.getLsbD 4 = true) →
    ∃ t, agentStep .engine s = .next t ∧
      { t with hostmem := s.hostmem, buf := s.buf, duringCopy := s.duringCopy } = { s with
        xseq := { s.xseq with stage := if s.bank1.ctl.getLsbD 0 then .stop else .release },
        phase := if s.bank1.ctl.getLsbD 0 then .evtReset else .idle } ∧
      (¬copied → t.duringCopy = s.duringCopy ∧
        ∀ a, Mem.read t.buf a = Mem.read s.buf a ∧ Mem.read t.hostmem a = Mem.read s.hostmem a) ∧
      (copied → t.duringCopy = [] ∧
        (∀ a, Mem.read t.buf a =
          s.landed (s.inside 0 (s.bank0.blkcnt * s.bank0.blksize)) a (Mem.read s.buf a)) ∧
        (∀ i, i < s.bank0.blkcnt * s.bank0.blksize →
          Mem.read t.hostmem (s.bank0.buf.toNat + i) = s.landed (s.inside 0 (i + 1)) i (Mem.read s.buf i)) ∧
        ∀ a, a < s.bank0.buf.toNat ∨ s.bank0.buf.toNat + s.bank0.blkcnt * s.bank0.blksize ≤ a →
          Mem.read t.hostmem a = Mem.read s.hostmem a)

/-- Stage `X_RELEASE` (R135): the mutex is released, one `req_done` pulse, the result `(OK, 0)`. That `out` records the pulse
before the result of the same step is the model's choice (log entry 8, DESIGN CHOICE). -/
def Obligations.StageRelease : Prop :=
  ∀ s : State, s.phase = .idle → s.xseq.stage = .release →
    agentStep .engine s = .next { s with
      xseq := { s.xseq with stage := .none }, ctl := { s.ctl with busy := false },
      out := .result .ok 0#64 :: .reqDone :: s.out }

/-- Scenario 2 of the source (R133, R153): a valid request whose main command reads data from the card, with no stop command
and no stale flag, runs to its end when the card delivers bytes through the armed channel and the controller raises
`DATAEND`: the main command's verdict is `Success`, the caller's buffer equals the first `L` bytes of `BUF` as the channel
left them, and no other byte of the caller's memory has changed. The run is the one on this schedule; that `out` records
the pulse before the result of the last step is the model's choice (log entry 8, DESIGN CHOICE). -/
def Obligations.ExecDeliversCardBytes : Prop :=
  ∀ (s : State) (moves : List (Nat × Byte)),
    s.phase = .idle → s.xseq.direct = false → s.rawsta = 0#32 → ¬invalidRequest s →
    s.bank0.ctl.getLsbD 0 = true → s.bank0.ctl.getLsbD 3 = true → s.bank0.ctl.getLsbD 4 = true →
    s.bank1.ctl.getLsbD 0 = false →
    (∀ m ∈ moves, m.1 < s.bank0.blkcnt * s.bank0.blksize) →
    ∃ u t, exec .exec s = .next u ∧
      runAgents
        (List.replicate 7 .engine ++ moves.map (fun m => .dma m.1 m.2) ++ [.bus [.raiseFlags 0x40#32], .isr] ++
          List.replicate 7 .engine) u = .next t ∧
      t.out = .result .ok 0#64 :: .reqDone :: s.out ∧ t.ctl.busy = false ∧ t.phase = .idle ∧ t.xseq.stage = .none ∧
      t.bank0.err = ⟨.success, .success⟩ ∧ t.dmactl.en = false ∧
      (∀ a, Mem.read t.buf a = Mem.read (moves.foldl (fun b m => Mem.write b m.1 m.2) s.buf) a) ∧
      ∀ a, Mem.read t.hostmem a =
        if s.bank0.buf.toNat ≤ a ∧ a < s.bank0.buf.toNat + s.bank0.blkcnt * s.bank0.blksize then
          Mem.read t.buf (a - s.bank0.buf.toNat)
        else Mem.read s.hostmem a

/-! ## RECOVER -/

/-- RECOVER (R140) and hard recovery (R141, R142): acceptance takes the port and changes nothing else but the phase;
`S_RECOVOFF` disables the controller; `S_RECOVON` enables it and goes on to S11 inside SEND, else releases the port and
answers `(OK, 0)`. -/
def Obligations.RecoverRuns : Prop :=
  ∀ s : State,
    exec .recover s = .next { s with ctl := { s.ctl with busy := true }, phase := .recovOff } ∧
    (s.phase = .recovOff →
      agentStep .engine s = .next { s with ctl := { s.ctl with ctlen := false }, phase := .recovOn }) ∧
    (s.phase = .recovOn →
      (s.xseq.direct = true ∨ s.xseq.stage = .main ∨ s.xseq.stage = .stop →
        agentStep .engine s = .next { s with ctl := { s.ctl with ctlen := true }, phase := .cleanup }) ∧
      (¬(s.xseq.direct = true ∨ s.xseq.stage = .main ∨ s.xseq.stage = .stop) →
        agentStep .engine s = .next { s with
          ctl := ⟨true, false⟩, phase := .idle, out := .result .ok 0#64 :: s.out }))

/-- While the port is busy a step of ENGINE changes the state, unless ENGINE is held in S7 with no event and fewer than five
ticks (R118, R136): a busy block is never stuck. While the port is free ENGINE has no step (R136); that a scheduled
ENGINE then leaves the state as it is is log entry 6 (DEDUCED), the model's own. -/
def Obligations.EngineNeverStuck : Prop :=
  ∀ s : State, Inv s →
    (s.ctl.busy = true → ¬(s.phase = .wait ∧ s.evtSet = false ∧ s.wcnt.toNat < 5) →
      ∃ t, agentStep .engine s = .next t ∧ t ≠ s) ∧
    (s.ctl.busy = false → agentStep .engine s = .next s)

/-! ## The interrupt and the environment -/

/-- The ISR step (R175, R176): where no enabled flag is raised R176 gives the ISR no step, and that a scheduled ISR then
leaves the state as it is is log entry 6 (DEDUCED), the model's own; else it acknowledges exactly the enabled
raised flags, reports a card interrupt, and, when a command is pending and complete, signals the event with the whole
status as read and clears the pending mark. -/
def Obligations.IsrStep : Prop :=
  ∀ s : State,
    (s.rawsta &&& s.ien &&& 0x27F#32 = 0#32 → agentStep .isr s = .next s) ∧
    (∀ a : Word, a = s.rawsta &&& s.ien &&& 0x27F#32 → a ≠ 0#32 →
      ∀ complete : Bool,
        (complete = true ↔ s.pend.valid = true ∧
          (a &&& 0xF#32 ≠ 0#32 ∨ a.getLsbD 6 = true ∨
            ((a.getLsbD 5 = true ∨ a.getLsbD 4 = true) ∧ (s.bank s.pend.slot).ctl.getLsbD 3 = false))) →
        agentStep .isr s = .next { s with
          rawsta := s.rawsta &&& ~~~a,
          out := if a.getLsbD 9 then .cardIrq :: s.out else s.out,
          evtst := if complete then s.rawsta else s.evtst,
          evtSet := if complete then true else s.evtSet,
          pend := if complete then { s.pend with valid := false } else s.pend })

/-- After an ISR step `irq` is false (R177 (a)), and a completion is signalled only by clearing the pending mark (R177 (b)). -/
def Obligations.IsrQuietsTheRequest : Prop :=
  ∀ s t : State, agentStep .isr s = .next t →
    t.irq = false ∧
    (t.evtst ≠ s.evtst ∨ (t.evtSet = true ∧ s.evtSet = false) → s.pend.valid = true ∧ t.pend.valid = false)

/-- BUS (R185): whatever liberties it takes, it writes only `RAWSTA`, `HWRESP0..3` and `CMDREG.START`, which it can only
clear, and while `CTLEN = 1` it clears no sticky flag; and each state within these bounds is one it can reach. That one
atomic step may combine any of the liberties, and so reach each such state at once, is the model's choice (log entry 9,
DEDUCED). -/
def Obligations.BusLiberties : Prop :=
  (∀ (acts : List BusAct) (s : State),
    ∃ t, agentStep (.bus acts) s = .next t ∧
      { t with rawsta := s.rawsta, hwresp0 := s.hwresp0, hwresp1 := s.hwresp1, hwresp2 := s.hwresp2,
               hwresp3 := s.hwresp3, cmdreg := s.cmdreg } = s ∧
      (t.cmdreg = s.cmdreg ∨ t.cmdreg = s.cmdreg &&& 0x0FF#9) ∧
      (s.ctl.ctlen = true → s.rawsta &&& 0x27F#32 &&& ~~~t.rawsta = 0#32)) ∧
  (∀ (s : State) (raw w0 w1 w2 w3 : Word) (stop : Bool),
    s.rawsta &&& ~~~0x3FF#32 = 0#32 → raw &&& ~~~0x3FF#32 = 0#32 →
    s.ctl.ctlen = false ∨ s.rawsta &&& 0x27F#32 &&& ~~~raw = 0#32 →
    ∃ acts, agentStep (.bus acts) s = .next { s with
      rawsta := raw, hwresp0 := w0, hwresp1 := w1, hwresp2 := w2, hwresp3 := w3,
      cmdreg := if stop then s.cmdreg &&& 0x0FF#9 else s.cmdreg })

/-- The DMA agent (R153): armed from the card it may write any byte of `BUF` below `DMALEN` and nothing else; armed to the
card, not armed, or at an index not below `DMALEN`, it changes nothing. The premise `DMALEN <= BOUNCE_CAP` is the
rule's own and part of the invariant. Two parts are the model's own: a scheduled DMA agent that has no step leaves the
state as it is (log entry 6, DEDUCED), and a step moves one byte in block mode too (log entry 16, DEDUCED). -/
def Obligations.DmaStep : Prop :=
  ∀ (i : Nat) (v : Byte) (s : State), (s.dmactl.en = true → s.dmalen.toNat ≤ s.params.bounceCap) →
    (s.dmactl.en = true → s.dmactl.dir = .fromCard → i < s.dmalen.toNat →
      ∃ t, agentStep (.dma i v) s = .next t ∧ { t with buf := s.buf } = s ∧
        ∀ a, Mem.read t.buf a = if a = i then v else Mem.read s.buf a) ∧
    (s.dmactl.en = false ∨ s.dmactl.dir = .toCard ∨ s.dmalen.toNat ≤ i → agentStep (.dma i v) s = .next s)

/-- TICK (R183): one more time unit in `S_WAIT`, saturating at 255, and nothing otherwise. -/
def Obligations.TickStep : Prop :=
  ∀ s : State, ∃ t, agentStep .tick s = .next t ∧ { t with wcnt := s.wcnt } = s ∧
    t.wcnt.toNat = if s.phase = .wait then min (s.wcnt.toNat + 1) 255 else s.wcnt.toNat

/-- `apply` (R160 to R164): refused whole while the port is busy, below the threshold of the source clock, or with a width that
is not 1, 4 or 8 lines; else divider, width and power are as the rules say and no other register changes. The field
`busApplied`, the model's own record that an `apply` has run (log entry 11), is left out of the frame. R160 gives `apply`
no step while the port is busy; that a scheduled `apply` then leaves the state as it is is log entry 6 (DEDUCED), and
that the source clock comes with the argument is log entry 19 (DEDUCED). -/
def Obligations.ApplyConfig : Prop :=
  ∀ (c : BusConfig) (s : State),
    (s.ctl.busy = true ∨ c.source < 400000 ∨ (c.lines ≠ 1 ∧ c.lines ≠ 4 ∧ c.lines ≠ 8) →
      agentStep (.apply c) s = .next s) ∧
    (s.ctl.busy = false → 400000 ≤ c.source → c.lines = 1 ∨ c.lines = 4 ∨ c.lines = 8 →
      ∃ t, agentStep (.apply c) s = .next t ∧
        { t with buscfg := s.buscfg, busApplied := s.busApplied } = s ∧
        t.buscfg.clkdiv.toNat =
          (if c.target = 0 then s.buscfg.clkdiv.toNat else min 257 (max 2 (c.source / c.target)) - 2) ∧
        t.buscfg.width = (if c.lines = 1 then 0#2 else if c.lines = 4 then 1#2 else 2#2) ∧
        (c.power = .off → t.buscfg.pwr = 0#2 ∧ t.buscfg.clken = false ∧ t.buscfg.hwgate = s.buscfg.hwgate) ∧
        (c.power = .up →
          t.buscfg.pwr = 1#2 ∧ t.buscfg.clken = s.buscfg.clken ∧ t.buscfg.hwgate = s.buscfg.hwgate) ∧
        (c.power = .on → t.buscfg.pwr = 2#2 ∧ t.buscfg.clken = true ∧ t.buscfg.hwgate = true))

/-- Applying the same configuration twice gives the register values of applying it once (R165). -/
def Obligations.ApplyIdempotent : Prop :=
  ∀ (c : BusConfig) (s t : State), agentStep (.apply c) s = .next t → agentStep (.apply c) t = .next t

/-! ## Reset and invariants -/

/-- Reset (R36, R200): the reset state has every value the table states, and a reset in any state, also one in the middle of
an operation, gives every value the table states, draws the unspecified ones, keeps `BUSCFG` of the last `apply`,
leaves `HOSTMEM` alone, delivers no result and emits no pulse. -/
def Obligations.ResetValues : Prop :=
  ResetTable State.reset ∧
  ∀ (d : ResetDraw) (s : State),
    ∃ t, agentStep (.reset d) s = .next t ∧ ResetTable t ∧
      t.hwresp0 = d.hwresp0 ∧ t.hwresp1 = d.hwresp1 ∧ t.hwresp2 = d.hwresp2 ∧ t.hwresp3 = d.hwresp3 ∧
      (s.busApplied = true → t.buscfg = s.buscfg) ∧ (s.busApplied = false → t.buscfg = busCfgOf d.buscfg) ∧
      t.hostmem = s.hostmem ∧ t.out = s.out ∧ t.params = s.params ∧
      (d.buf.length = s.params.bounceCap → ∀ a (h : a < d.buf.length), Mem.read t.buf a = d.buf[a])

/-- The reset state meets the invariant. -/
def Obligations.ResetMeetsInvariant : Prop := Inv State.reset

/-- Every step of the machine, of whatever agent, keeps the invariant. -/
def Obligations.StepKeepsInvariant : Prop :=
  ∀ s t : State, Inv s → step s = .next t → Inv t

/-- No step from a state that meets the invariant stops: no fault and no refusal (R46, R47, R70, R153, R180). -/
def Obligations.NoStepStops : Prop :=
  ∀ s : State, Inv s → ∃ t, step s = .next t

/-- Every step keeps the canonical form of the two memories, from any state in which they have it. -/
def Obligations.MemoryStaysCanonical : Prop :=
  ∀ s t : State, Mem.wf s.buf → Mem.wf s.hostmem → step s = .next t → Mem.wf t.buf ∧ Mem.wf t.hostmem

/-! ## Rules of the whole machine -/

/-- Who sets and who clears each flag of R38, over every step of every agent but a reset. -/
def Obligations.FlagWriters : Prop :=
  ∀ (s t : State) (e : AgentStep), e.isReset = false → agentStep e s = .next t →
    (s.pend.valid = false → t.pend.valid = true → e = .engine ∧ s.phase = .setPend) ∧
    (s.pend.valid = true → t.pend.valid = false → e = .isr ∨ (e = .engine ∧ s.phase = .cleanup)) ∧
    (s.evtSet = false → t.evtSet = true → e = .isr) ∧
    (s.evtSet = true → t.evtSet = false → e = .engine ∧ (s.phase = .evtReset ∨ s.phase = .wait)) ∧
    (s.ctl.busy = false → t.ctl.busy = true → ∃ w i, s.acceptedWord e = some w ∧ decode w = .ok i ∧
      (i = .send .main ∨ i = .send .stop ∨ i = .exec ∨ i = .recover)) ∧
    (s.ctl.busy = true → t.ctl.busy = false → e = .engine ∧
      (s.phase = .cleanup ∨ s.phase = .recovOn ∨ (s.phase = .idle ∧ s.xseq.stage = .release))) ∧
    (s.ctl.ctlen = false → t.ctl.ctlen = true → e = .engine ∧ s.phase = .recovOn) ∧
    (s.ctl.ctlen = true → t.ctl.ctlen = false → e = .engine ∧ s.phase = .recovOff) ∧
    (s.ovr = false → t.ovr = true → ∃ w len addr, s.acceptedWord e = some w ∧ decode w = .ok (.crc16s4 len addr) ∧
      512 < len.toNat) ∧
    (s.ovr = true → t.ovr = false → ∃ w, s.acceptedWord e = some w ∧ decode w = .ok (.wrreg 0x30#8 1#32)) ∧
    (s.dctl.en = false → t.dctl.en = true → e = .engine ∧ s.phase = .dmaArm) ∧
    (s.dctl.en = true → t.dctl.en = false → e = .engine ∧ s.phase = .dataProg) ∧
    (s.dmactl.en = false → t.dmactl.en = true → e = .engine ∧ s.phase = .dmaArm) ∧
    (s.dmactl.en = true → t.dmactl.en = false → e = .engine ∧ s.phase = .drainExit) ∧
    (∀ j, s.rawsta.getLsbD j = false → t.rawsta.getLsbD j = true → ∃ acts, e = .bus acts) ∧
    (∀ j, j < 7 ∨ j = 9 → s.rawsta.getLsbD j = true → t.rawsta.getLsbD j = false →
      e = .isr ∨ (s.ctl.ctlen = false ∧ ∃ acts, e = .bus acts)) ∧
    (∀ j, j = 7 ∨ j = 8 → s.rawsta.getLsbD j = true → t.rawsta.getLsbD j = false → ∃ acts, e = .bus acts)

/-- Every byte of memory that a step changes, and why (R32, R49, R90, R113, R131, R133, R144, R153): nothing outside `BUF` and
the caller's buffer is touched by the block. An armed DMA agent writes `BUF` in a step of its own or inside a copy (R43);
the list `duringCopy` of the steps inside the next copy is the model's own (log entry 23). -/
def Obligations.MemoryWriters : Prop :=
  ∀ (s t : State) (e : AgentStep), e.isReset = false → agentStep e s = .next t →
    (∀ a, Mem.read t.buf a ≠ Mem.read s.buf a →
      (∃ w len addr, s.acceptedWord e = some w ∧ decode w = .ok (.crc16s4 len addr) ∧
        addr.toNat + len.toNat ≤ a ∧ a < addr.toNat + len.toNat + 8 ∧ a < s.params.bounceCap) ∨
      (e = .engine ∧ s.phase = .dataProg ∧ (s.bank s.cs).crc = true ∧ (s.bank s.cs).len ≤ a ∧
        a < (s.bank s.cs).len + 8) ∨
      (e = .engine ∧ s.phase = .idle ∧ s.xseq.stage = .copyIn ∧ s.bank0.ctl.getLsbD 3 = true ∧
        s.bank0.ctl.getLsbD 4 = false ∧ a < s.bank0.len) ∨
      (s.dmactl.en = true ∧ s.dmactl.dir = .fromCard ∧ a < s.dmalen.toNat ∧
        ((∃ v, e = .dma a v) ∨
         ((∃ v, (a, v) ∈ s.duringCopy.flatten) ∧
           ((∃ w len addr, s.acceptedWord e = some w ∧ decode w = .ok (.crc16s4 len addr)) ∨
            (e = .engine ∧ s.phase = .dataProg ∧ (s.bank s.cs).crc = true) ∨
            (e = .engine ∧ s.phase = .idle ∧ (s.xseq.stage = .copyIn ∨ s.xseq.stage = .copyOut))))))) ∧
    (∀ a, Mem.read t.hostmem a ≠ Mem.read s.hostmem a →
      (∃ b v, e = .hostWrite b v ∧ a = b.toNat) ∨
      (e = .engine ∧ s.phase = .idle ∧ s.xseq.stage = .copyOut ∧ s.bank0.ctl.getLsbD 3 = true ∧
        s.bank0.ctl.getLsbD 4 = true ∧ s.bank0.buf.toNat ≤ a ∧ a < s.bank0.buf.toNat + s.bank0.len))

/-- Every accepted word gives exactly one result (R66): over every step but a reset, the results delivered and the
operations in progress go up together by the words accepted. -/
def Obligations.OneResultPerWord : Prop :=
  ∀ (s t : State) (e : AgentStep), Inv s → e.isReset = false → agentStep e s = .next t →
    t.results + t.inFlight = s.results + s.inFlight + (if (s.acceptedWord e).isSome then 1 else 0)

/-- The result slots and the descriptors (R12, R17, R18, R101): the four descriptor registers of a bank change only by an
accepted WRREG, and the result slot of a bank only by ENGINE inside that bank's SEND or by an EXEC that is refused; a
host cannot forge an error code. -/
def Obligations.BankWriters : Prop :=
  ∀ (s t : State) (e : AgentStep) (c : Slot), Inv s → e.isReset = false → agentStep e s = .next t →
    (((t.bank c).ctl, (t.bank c).arg, (t.bank c).blk, (t.bank c).buf) ≠
        ((s.bank c).ctl, (s.bank c).arg, (s.bank c).blk, (s.bank c).buf) →
      ∃ w n v, s.acceptedWord e = some w ∧ decode w = .ok (.wrreg n v) ∧ descriptorNumber n) ∧
    (((t.bank c).err, (t.bank c).resp0, (t.bank c).resp1, (t.bank c).resp2, (t.bank c).resp3) ≠
        ((s.bank c).err, (s.bank c).resp0, (s.bank c).resp1, (s.bank c).resp2, (s.bank c).resp3) →
      (e = .engine ∧ s.insideSend = true ∧ s.cs = c) ∨
      (∃ w, s.acceptedWord e = some w ∧ decode w = .ok .exec ∧ invalidRequest s ∧
        (t.bank c).err.cmdErr = .invalidArgument))

end
end

