-- ==== Sys2Proof/Laws/Memory.lean ====
section
/-! SUPPORT. The laws of the byte memories: a read after a write, what a write leaves alone, a block of writes, and that
every memory operation keeps the canonical form and the address range. -/

namespace Sys2Proof.Machine

open Sys2Proof

/-! ## Reads and single writes -/

@[simp] theorem Mem.read_nil (a : Nat) : Mem.read [] a = Config.memFill := rfl

theorem Mem.clear_cons (k : Nat) (v : Byte) (m : Mem) (a : Nat) :
    Mem.clear ((k, v) :: m) a = if k = a then Mem.clear m a else (k, v) :: Mem.clear m a := by
  by_cases h : k = a <;> simp [Mem.clear, h]

theorem Mem.read_clear (m : Mem) (a b : Nat) :
    Mem.read (Mem.clear m a) b = if b = a then Config.memFill else Mem.read m b := by
  induction m with
  | nil => simp [Mem.clear]
  | cons p m ih =>
    obtain ⟨k, v⟩ := p
    rw [Mem.clear_cons]
    by_cases hk : k = a
    · subst hk
      simp only [if_true, ih, Mem.read]
      by_cases hb : b = k
      · simp [hb]
      · simp [hb, Ne.symm hb]
    · simp only [hk, if_false, Mem.read, ih]
      by_cases hb : b = a
      · simp [hb, hk]
      · simp [hb]

/-- No cell of a cleared memory has the cleared address. -/
theorem Mem.clear_absent (m : Mem) (a : Nat) : ∀ p ∈ Mem.clear m a, p.1 ≠ a := by
  intro p hp
  simpa [Mem.clear] using (List.mem_filter.mp hp).2

theorem Mem.read_insert (m : Mem) (a : Nat) (v : Byte) (b : Nat) (h : ∀ p ∈ m, p.1 ≠ a) :
    Mem.read (Mem.insert m a v) b = if b = a then v else Mem.read m b := by
  induction m with
  | nil =>
    by_cases hb : a = b
    · simp [Mem.insert, Mem.read, hb]
    · simp [Mem.insert, Mem.read, hb, Ne.symm hb]
  | cons p m ih =>
    obtain ⟨k, w⟩ := p
    have hk : k ≠ a := h (k, w) (by simp)
    have ih' := ih (fun q hq => h q (List.mem_cons_of_mem _ hq))
    unfold Mem.insert
    split
    · by_cases hb : a = b
      · simp [Mem.read, hb]
      · simp [Mem.read, hb, Ne.symm hb]
    · simp only [Mem.read, ih']
      by_cases hb : b = a
      · simp [hb, hk]
      · simp [hb]

/-- A read after one write. -/
theorem Mem.read_write (m : Mem) (a : Nat) (v : Byte) (b : Nat) :
    Mem.read (Mem.write m a v) b = if b = a then v else Mem.read m b := by
  unfold Mem.write
  split
  · rename_i h
    rw [Mem.read_clear, h]
  · rw [Mem.read_insert _ _ _ _ (Mem.clear_absent m a), Mem.read_clear]
    by_cases hb : b = a <;> simp [hb]

@[simp] theorem Mem.read_write_same (m : Mem) (a : Nat) (v : Byte) : Mem.read (Mem.write m a v) a = v := by
  simp [Mem.read_write]

theorem Mem.read_write_other (m : Mem) (a : Nat) (v : Byte) (b : Nat) (h : b ≠ a) :
    Mem.read (Mem.write m a v) b = Mem.read m b := by
  simp [Mem.read_write, h]

/-! ## Blocks of bytes -/

@[simp] theorem Mem.readBytes_length (m : Mem) (a n : Nat) : (Mem.readBytes m a n).length = n := by
  simp [Mem.readBytes]

theorem Mem.readBytes_getD (m : Mem) (a n i : Nat) (h : i < n) :
    (Mem.readBytes m a n).getD i 0#8 = Mem.read m (a + i) := by
  simp [Mem.readBytes, h]

/-- A read after a block of writes: the written byte inside the block, the old byte outside. -/
theorem Mem.read_writeBytes (vs : List Byte) (m : Mem) (a b : Nat) :
    Mem.read (Mem.writeBytes m a vs) b =
      if a ≤ b ∧ b < a + vs.length then vs.getD (b - a) 0#8 else Mem.read m b := by
  induction vs generalizing m a with
  | nil =>
    have h : ¬(a ≤ b ∧ b < a + ([] : List Byte).length) := by simp
    simp only [Mem.writeBytes, if_neg h]
  | cons v vs ih =>
    simp only [Mem.writeBytes, ih, Mem.read_write, List.length_cons]
    by_cases h1 : a + 1 ≤ b ∧ b < a + 1 + vs.length
    · have h2 : a ≤ b ∧ b < a + (vs.length + 1) := by omega
      have h3 : b - a = (b - (a + 1)) + 1 := by omega
      rw [if_pos h1, if_pos h2, h3, List.getD_cons_succ]
    · rw [if_neg h1]
      by_cases hb : b = a
      · subst hb
        simp
      · have h2 : ¬(a ≤ b ∧ b < a + (vs.length + 1)) := by omega
        rw [if_neg h2, if_neg hb]

theorem Mem.read_writeBytes_outside (vs : List Byte) (m : Mem) (a b : Nat) (h : b < a ∨ a + vs.length ≤ b) :
    Mem.read (Mem.writeBytes m a vs) b = Mem.read m b := by
  rw [Mem.read_writeBytes, if_neg (by omega)]

/-! ## The canonical form and the address range -/

theorem Mem.wf_nil : Mem.wf [] := by simp [Mem.wf]

/-- The two memories of the reset state are in canonical form. -/
theorem State.reset_memories_wf : Mem.wf State.reset.buf ∧ Mem.wf State.reset.hostmem := ⟨Mem.wf_nil, Mem.wf_nil⟩

theorem Mem.clear_wf (m : Mem) (a : Nat) (h : Mem.wf m) : Mem.wf (Mem.clear m a) := by
  refine ⟨h.1.filter _, fun p hp => h.2 p (List.mem_filter.mp hp).1⟩

theorem Mem.mem_insert (m : Mem) (a : Nat) (v : Byte) (p : Host.Cell) (hp : p ∈ Mem.insert m a v) :
    p = (a, v) ∨ p ∈ m := by
  induction m with
  | nil => simpa [Mem.insert] using hp
  | cons q m ih =>
    obtain ⟨k, w⟩ := q
    unfold Mem.insert at hp
    split at hp
    · simpa using hp
    · rcases List.mem_cons.mp hp with h | h
      · exact Or.inr (by simp [h])
      · rcases ih h with h' | h'
        · exact Or.inl h'
        · exact Or.inr (List.mem_cons_of_mem _ h')

theorem Mem.insert_pairwise (m : Mem) (a : Nat) (v : Byte) (h : m.Pairwise (fun p q => p.1 < q.1))
    (ha : ∀ p ∈ m, p.1 ≠ a) : (Mem.insert m a v).Pairwise (fun p q => p.1 < q.1) := by
  induction m with
  | nil => simp [Mem.insert]
  | cons q m ih =>
    obtain ⟨k, w⟩ := q
    have hk : k ≠ a := ha (k, w) (by simp)
    obtain ⟨h1, h2⟩ := List.pairwise_cons.mp h
    unfold Mem.insert
    split
    · rename_i hlt
      refine List.pairwise_cons.mpr ⟨fun p hp => ?_, h⟩
      rcases List.mem_cons.mp hp with rfl | hp
      · exact hlt
      · exact Nat.lt_trans hlt (h1 p hp)
    · rename_i hlt
      refine List.pairwise_cons.mpr ⟨fun p hp => ?_, ih h2 (fun p hp => ha p (List.mem_cons_of_mem _ hp))⟩
      rcases Mem.mem_insert m a v p hp with rfl | hp
      · simp only; omega
      · exact h1 p hp

/-- A write keeps the canonical form. -/
theorem Mem.write_wf (m : Mem) (a : Nat) (v : Byte) (h : Mem.wf m) : Mem.wf (Mem.write m a v) := by
  unfold Mem.write
  split
  · exact Mem.clear_wf m a h
  · rename_i hv
    have hc := Mem.clear_wf m a h
    refine ⟨Mem.insert_pairwise _ a v hc.1 (Mem.clear_absent m a), fun p hp => ?_⟩
    rcases Mem.mem_insert _ a v p hp with rfl | hp
    · exact hv
    · exact hc.2 p hp

/-- A write adds no cell but the one written. -/
theorem Mem.mem_write (m : Mem) (a : Nat) (v : Byte) (p : Host.Cell) (hp : p ∈ Mem.write m a v) :
    p = (a, v) ∨ p ∈ m := by
  unfold Mem.write at hp
  split at hp
  · exact Or.inr (List.mem_filter.mp hp).1
  · rcases Mem.mem_insert _ a v p hp with h | h
    · exact Or.inl h
    · exact Or.inr (List.mem_filter.mp h).1

theorem Mem.write_range (m : Mem) (a : Nat) (v : Byte) (n : Nat) (h : ∀ p ∈ m, p.1 < n) (ha : a < n) :
    ∀ p ∈ Mem.write m a v, p.1 < n := by
  intro p hp
  rcases Mem.mem_write m a v p hp with rfl | hp
  · exact ha
  · exact h p hp

/-- A block of writes keeps the canonical form. -/
theorem Mem.writeBytes_wf (vs : List Byte) (m : Mem) (a : Nat) (h : Mem.wf m) : Mem.wf (Mem.writeBytes m a vs) := by
  induction vs generalizing m a with
  | nil => exact h
  | cons v vs ih => exact ih _ _ (Mem.write_wf m a v h)

theorem Mem.writeBytes_range (vs : List Byte) (m : Mem) (a n : Nat) (h : ∀ p ∈ m, p.1 < n) (ha : a + vs.length ≤ n) :
    ∀ p ∈ Mem.writeBytes m a vs, p.1 < n := by
  induction vs generalizing m a with
  | nil => exact h
  | cons v vs ih =>
    simp only [List.length_cons] at ha
    exact ih _ _ (Mem.write_range m a v n h (by omega)) (by omega)

/-- The trailer has eight bytes (R88, R89). -/
@[simp] theorem s4Trailer_length (bytes : List Byte) : (s4Trailer bytes).length = Config.trailerBytes := by
  simp [s4Trailer]

end Sys2Proof.Machine
end

