-- ==== Sys2Proof/Laws/Copy.lean ====
section
/-! SUPPORT. What a multi-byte copy of `BUF` does, with the DMA steps that fall inside it (R43): each byte read, each byte of
`BUF` after the copy, and that the canonical form and the address range are kept. -/

namespace Sys2Proof.Machine

open Sys2Proof

/-! ## DMA steps inside a copy -/

/-- When a DMA step at an index writes `BUF`. -/
theorem State.dmaWrites_iff (s : State) (i : Nat) :
    s.dmaWrites i = true ↔
      s.dmactl.en = true ∧ s.dmactl.dir = .fromCard ∧ i < s.dmalen.toNat ∧ i < s.params.bounceCap := by
  simp only [State.dmaWrites, State.dmaEnabled, State.inBuf, Bool.and_eq_true, beq_iff_eq, Nat.ble_eq]
  have : Nat.blt i s.dmalen.toNat = true ↔ i < s.dmalen.toNat := by simp [Nat.blt, Nat.ble_eq]
  rw [this]
  constructor
  · rintro ⟨⟨⟨h1, h2⟩, h3⟩, h4⟩; exact ⟨h1, h3, h2, by omega⟩
  · rintro ⟨h1, h3, h2, h4⟩; exact ⟨⟨⟨h1, h2⟩, h3⟩, by omega⟩

@[simp] theorem State.landed_nil (s : State) (a : Nat) (v : Byte) : s.landed [] a v = v := by simp [State.landed]

@[simp] theorem State.inside_nil (s : State) (h : s.duringCopy = []) (lo hi : Nat) : s.inside lo hi = [] := by
  simp [State.inside, h]

/-- A read after DMA steps. -/
theorem State.read_dmaMoves (s : State) (xs : List DmaMove) (m : Mem) (b : Nat) :
    Mem.read (s.dmaMoves xs m) b = s.landed xs b (Mem.read m b) := by
  induction xs generalizing m with
  | nil => simp [State.dmaMoves]
  | cons x xs ih =>
    rw [State.dmaMoves, ih]
    by_cases hw : s.dmaWrites b = true
    · have hc := (s.dmaWrites_iff b).mp hw
      by_cases hx : x.1 = b
      · subst hx
        simp [State.landed, hc, hw]
      · have hx' : b ≠ x.1 := fun h => hx h.symm
        simp only [State.landed, if_pos hc, List.filter_cons, beq_iff_eq, hx, if_false]
        congr 1
        split
        · rw [Mem.read_write_other _ _ _ _ hx']
        · rfl
    · have hc := fun h => hw ((s.dmaWrites_iff b).mpr h)
      simp only [State.landed, if_neg hc]
      split
      · rename_i h
        exact Mem.read_write_other _ _ _ _ (fun hb => hw (by rw [hb]; exact h))
      · rfl

theorem State.dmaMoves_append (s : State) (xs ys : List DmaMove) (m : Mem) :
    s.dmaMoves (xs ++ ys) m = s.dmaMoves ys (s.dmaMoves xs m) := by
  induction xs generalizing m with
  | nil => rfl
  | cons x xs ih => exact ih _

/-- A property that every write below `BOUNCE_CAP` keeps is kept by DMA steps. -/
theorem State.dmaMoves_keeps {p : Mem → Prop} (s : State)
    (hp : ∀ m i v, i < s.params.bounceCap → p m → p (Mem.write m i v)) (xs : List DmaMove) (m : Mem) (h : p m) :
    p (s.dmaMoves xs m) := by
  induction xs generalizing m with
  | nil => exact h
  | cons x xs ih =>
    refine ih _ ?_
    split
    · rename_i hw
      exact hp m x.1 x.2 ((s.dmaWrites_iff x.1).mp hw).2.2.2 h
    · exact h

/-- The DMA steps before the first `n + 1` accesses: those before the first, then those before the next `n`. -/
theorem flatten_take_succ (gaps : List (List DmaMove)) (n : Nat) :
    (gaps.take (n + 1)).flatten = gaps.headD [] ++ (gaps.tail.take n).flatten := by
  cases gaps <;> simp

/-! ## Reading -/

/-- The bytes a copy reads: each as it stands when the copy comes to it. -/
theorem State.readBuf_bytes (s : State) (gaps : List (List DmaMove)) (a n : Nat) (m : Mem) :
    (s.readBuf gaps a n m).1 =
      (List.range n).map (fun k => s.landed (gaps.take (k + 1)).flatten (a + k) (Mem.read m (a + k))) := by
  induction n generalizing gaps a m with
  | zero => rfl
  | succ n ih =>
    rw [State.readBuf, List.range_succ_eq_map, List.map_cons, List.map_map]
    simp only [ih]
    congr 1
    · rw [State.read_dmaMoves, flatten_take_succ]; simp
    · apply List.map_congr_left
      intro k _
      simp only [Function.comp, Nat.succ_eq_add_one]
      rw [← State.read_dmaMoves, ← State.dmaMoves_append, ← flatten_take_succ, State.read_dmaMoves]
      rw [show a + 1 + k = a + (k + 1) by omega]

@[simp] theorem State.readBuf_length (s : State) (gaps : List (List DmaMove)) (a n : Nat) (m : Mem) :
    (s.readBuf gaps a n m).1.length = n := by simp [State.readBuf_bytes]

/-- `BUF` after a copy has read it: as the DMA steps inside left it. -/
theorem State.readBuf_mem (s : State) (gaps : List (List DmaMove)) (a n : Nat) (m : Mem) :
    (s.readBuf gaps a n m).2 = s.dmaMoves (gaps.take n).flatten m := by
  induction n generalizing gaps a m with
  | zero => rfl
  | succ n ih => rw [State.readBuf, ih, flatten_take_succ, State.dmaMoves_append]

/-! ## Writing -/

/-- A byte of `BUF` after a copy has written it: a byte inside the block is the byte written, unless a later DMA step moved
another one there; a byte outside is as the DMA steps left it. -/
theorem State.read_writeBuf (s : State) (gaps : List (List DmaMove)) (a : Nat) (vs : List Byte) (m : Mem) (b : Nat) :
    Mem.read (s.writeBuf gaps a vs m) b =
      if a ≤ b ∧ b < a + vs.length then
        s.landed ((gaps.take vs.length).drop (b - a + 1)).flatten b (vs.getD (b - a) 0#8)
      else s.landed (gaps.take vs.length).flatten b (Mem.read m b) := by
  induction vs generalizing gaps a m with
  | nil =>
    rw [if_neg (by simp)]
    simp [State.writeBuf]
  | cons v vs ih =>
    rw [State.writeBuf, ih, List.length_cons]
    by_cases h1 : a + 1 ≤ b ∧ b < a + 1 + vs.length
    · rw [if_pos h1, if_pos (by omega), show b - a = (b - (a + 1)) + 1 by omega, List.getD_cons_succ]
      congr 2
      cases gaps <;> simp
    · rw [if_neg h1]
      by_cases hb : b = a
      · subst hb
        rw [if_pos (by omega)]
        simp only [Mem.read_write_same, Nat.sub_self, List.getD_cons_zero]
        congr 2
        cases gaps <;> simp
      · rw [if_neg (by omega), Mem.read_write_other _ _ _ _ hb, flatten_take_succ, ← State.read_dmaMoves,
          ← State.read_dmaMoves, State.dmaMoves_append]

theorem State.writeBuf_keeps {p : Mem → Prop} (s : State)
    (hp : ∀ m i v, i < s.params.bounceCap → p m → p (Mem.write m i v)) (gaps : List (List DmaMove)) (a : Nat)
    (vs : List Byte) (m : Mem) (ha : a + vs.length ≤ s.params.bounceCap) (h : p m) : p (s.writeBuf gaps a vs m) := by
  induction vs generalizing gaps a m with
  | nil => exact h
  | cons v vs ih =>
    simp only [List.length_cons] at ha
    exact ih _ _ _ (by omega) (hp _ a v (by omega) (s.dmaMoves_keeps hp _ m h))

/-! ## The trailer -/

/-- What the codec's append leaves in `BUF`, byte by byte (R90, R113, R217): only the eight bytes after the data change, but
for what DMA steps move in between (R43). -/
theorem State.read_appendTrailer (s : State) (a n b : Nat) :
    Mem.read (s.appendTrailer a n).buf b =
      if a + n ≤ b ∧ b < a + n + 8 then
        s.landed (s.inside (b - a + 1) (n + 8)) b
          ((s4Trailer ((List.range n).map fun i => s.landed (s.inside 0 (i + 1)) (a + i) (Mem.read s.buf (a + i)))).getD
            (b - (a + n)) 0#8)
      else s.landed (s.inside 0 (n + 8)) b (Mem.read s.buf b) := by
  have h8 : Config.trailerBytes = 8 := rfl
  simp only [State.appendTrailer, State.read_writeBuf, s4Trailer_length, State.readBuf_bytes, h8, State.inside,
    List.drop_zero]
  split
  · rename_i h
    rw [List.take_drop, List.drop_drop, show n + (b - (a + n) + 1) = b - a + 1 by omega]
  · rw [State.readBuf_mem, ← State.read_dmaMoves, ← State.read_dmaMoves, ← State.dmaMoves_append, ← List.flatten_append,
      ← List.take_add]

/-- The codec's append keeps what every write below `BOUNCE_CAP` keeps. -/
theorem State.appendTrailer_keeps {p : Mem → Prop} (s : State)
    (hp : ∀ m i v, i < s.params.bounceCap → p m → p (Mem.write m i v)) (a n : Nat)
    (ha : a + n + 8 ≤ s.params.bounceCap) (h : p s.buf) : p (s.appendTrailer a n).buf := by
  refine s.writeBuf_keeps hp _ _ _ _ (by simpa [Config.trailerBytes] using ha) ?_
  rw [State.readBuf_mem]
  exact s.dmaMoves_keeps hp _ _ h

end Sys2Proof.Machine
end

