-- ==== Sys2Proof/Laws/Encoding.lean ====
section
/-! SUPPORT. The bits of the five word formats (R61 to R64), one lemma for each, and when a word spells a row. -/

namespace Sys2Proof

theorem formatK7_bit (op : Byte) (nbits : BitVec 4) (data : Byte) (crc : BitVec 7) (i : Nat) :
    (formatK7 op nbits data crc).getLsbD i =
      if i < 7 then crc.getLsbD i else if i < 16 then false else if i < 24 then data.getLsbD (i - 16)
      else if i < 28 then nbits.getLsbD (i - 24) else if i < 56 then false else op.getLsbD (i - 56) := by
  unfold formatK7
  change BitVec.getLsbD (w := 8 + 28 + 4 + 8 + 9 + 7) _ i = _
  simp only [BitVec.getLsbD_append, BitVec.getLsbD_zero]
  split_ifs <;> first | rfl | omega

theorem formatK16_bit (op : Byte) (nbits : BitVec 4) (data : Byte) (crc : BitVec 16) (i : Nat) :
    (formatK16 op nbits data crc).getLsbD i =
      if i < 16 then crc.getLsbD i else if i < 24 then data.getLsbD (i - 16)
      else if i < 28 then nbits.getLsbD (i - 24) else if i < 56 then false else op.getLsbD (i - 56) := by
  unfold formatK16
  change BitVec.getLsbD (w := 8 + 28 + 4 + 8 + 16) _ i = _
  simp only [BitVec.getLsbD_append, BitVec.getLsbD_zero]
  split_ifs <;> first | rfl | omega

theorem formatB_bit (op : Byte) (len : BitVec 16) (addr : BitVec 32) (i : Nat) :
    (formatB op len addr).getLsbD i =
      if i < 32 then addr.getLsbD i else if i < 48 then len.getLsbD (i - 32) else if i < 56 then false
      else op.getLsbD (i - 56) := by
  unfold formatB
  change BitVec.getLsbD (w := 8 + 8 + 16 + 32) _ i = _
  simp only [BitVec.getLsbD_append, BitVec.getLsbD_zero]
  split_ifs <;> first | rfl | omega

theorem formatR_bit (op : Byte) (reg : BitVec 8) (value : Word) (i : Nat) :
    (formatR op reg value).getLsbD i =
      if i < 32 then value.getLsbD i else if i < 40 then reg.getLsbD (i - 32) else if i < 56 then false
      else op.getLsbD (i - 56) := by
  unfold formatR
  change BitVec.getLsbD (w := 8 + 16 + 8 + 32) _ i = _
  simp only [BitVec.getLsbD_append, BitVec.getLsbD_zero]
  split_ifs <;> first | rfl | omega

theorem formatN_bit (op : Byte) (b : Bool) (i : Nat) :
    (formatN op b).getLsbD i =
      if i < 1 then b else if i < 56 then false else op.getLsbD (i - 56) := by
  unfold formatN
  change BitVec.getLsbD (w := 8 + 55 + 1) _ i = _
  simp only [BitVec.getLsbD_append, BitVec.getLsbD_zero]
  split_ifs <;> first | rfl | omega | simp_all

/-- A word spells a row when it meets the pattern at every bit of the mask, and the pattern has no other bit. -/
theorem Row.spells_of_bits {r : Row} {w : OpWord}
    (h : ∀ i, i < 64 → (w.getLsbD i && r.mask.getLsbD i) = r.pattern.getLsbD i) : r.spells w = true := by
  unfold Row.spells
  rw [beq_iff_eq]
  apply BitVec.eq_of_getLsbD_eq
  intro i hi
  simpa using h i hi

end Sys2Proof
end

