-- ==== Sys2Proof/Laws/PerInstr.lean ====
section
/-! SUPPORT. Statements made for each instruction: the word the encoder writes spells the instruction's own row of the
opcode map R65. -/

namespace Sys2Proof.Laws

open Sys2Proof

/-- The encoded word meets the mask and the pattern of the instruction's row. -/
def RowMatch.Statement (i : Instr) : Prop :=
  ∃ r ∈ rows, r.mnemonic = i.mnemonic ∧ r.spells (encode i) = true

theorem RowMatch.crc7 (nbits : BitVec 4) (data : Byte) (crc : BitVec 7) : RowMatch.Statement (.crc7 nbits data crc) := by
  refine ⟨⟨.crc7, 0x0100000000000000#64, 0xFFFFFFFFF000FF80#64⟩, by simp [rows], rfl, Row.spells_of_bits ?_⟩
  intro i hi
  simp only [encode, formatK7_bit]
  interval_cases i <;> simp

theorem RowMatch.crc16 (nbits : BitVec 4) (data : Byte) (crc : BitVec 16) : RowMatch.Statement (.crc16 nbits data crc) := by
  refine ⟨⟨.crc16, 0x0200000000000000#64, 0xFFFFFFFFF0000000#64⟩, by simp [rows], rfl, Row.spells_of_bits ?_⟩
  intro i hi
  simp only [encode, formatK16_bit]
  interval_cases i <;> simp

theorem RowMatch.crc16s4 (len : BitVec 16) (addr : BitVec 32) : RowMatch.Statement (.crc16s4 len addr) := by
  refine ⟨⟨.crc16s4, 0x0300000000000000#64, 0xFFFF000000000000#64⟩, by simp [rows], rfl, Row.spells_of_bits ?_⟩
  intro i hi
  simp only [encode, formatB_bit]
  interval_cases i <;> simp

theorem RowMatch.rdreg (reg : BitVec 8) : RowMatch.Statement (.rdreg reg) := by
  refine ⟨⟨.rdreg, 0x1000000000000000#64, 0xFFFFFF00FFFFFFFF#64⟩, by simp [rows], rfl, Row.spells_of_bits ?_⟩
  intro i hi
  simp only [encode, formatR_bit]
  interval_cases i <;> simp

theorem RowMatch.wrreg (reg : BitVec 8) (value : Word) : RowMatch.Statement (.wrreg reg value) := by
  refine ⟨⟨.wrreg, 0x1100000000000000#64, 0xFFFFFF0000000000#64⟩, by simp [rows], rfl, Row.spells_of_bits ?_⟩
  intro i hi
  simp only [encode, formatR_bit]
  interval_cases i <;> simp

theorem RowMatch.irqen (b : Bool) : RowMatch.Statement (.irqen b) := by
  refine ⟨⟨.irqen, 0x1200000000000000#64, 0xFFFFFFFFFFFFFFFE#64⟩, by simp [rows], rfl, ?_⟩
  cases b <;> decide

theorem RowMatch.detect : RowMatch.Statement .detect := by
  refine ⟨⟨.detect, 0x1300000000000000#64, 0xFFFFFFFFFFFFFFFF#64⟩, by simp [rows], rfl, ?_⟩
  decide

theorem RowMatch.send (slot : Slot) : RowMatch.Statement (.send slot) := by
  refine ⟨⟨.send, 0x2000000000000000#64, 0xFFFFFFFFFFFFFFFE#64⟩, by simp [rows], rfl, ?_⟩
  cases slot <;> decide

theorem RowMatch.exec : RowMatch.Statement .exec := by
  refine ⟨⟨.exec, 0x2100000000000000#64, 0xFFFFFFFFFFFFFFFF#64⟩, by simp [rows], rfl, ?_⟩
  decide

theorem RowMatch.recover : RowMatch.Statement .recover := by
  refine ⟨⟨.recover, 0x2200000000000000#64, 0xFFFFFFFFFFFFFFFF#64⟩, by simp [rows], rfl, ?_⟩
  decide

end Sys2Proof.Laws
end

