-- ==== Sys2Proof/Laws/State.lean ====
section
/-! SUPPORT. One lemma for each field of State and each named update of it, true by definition, so that no proof unfolds
an update; and what the compound updates (`setBank`, `raiseCmd`, `deliver`, `acknowledge`) do. -/

namespace Sys2Proof.Machine

open Sys2Proof

/-! ## `setIen` -/

@[simp] theorem State.setIen_bank0 (s : State) (v : Word) : (s.setIen v).bank0 = s.bank0 := rfl
@[simp] theorem State.setIen_bank1 (s : State) (v : Word) : (s.setIen v).bank1 = s.bank1 := rfl
@[simp] theorem State.setIen_phase (s : State) (v : Word) : (s.setIen v).phase = s.phase := rfl
@[simp] theorem State.setIen_xseq (s : State) (v : Word) : (s.setIen v).xseq = s.xseq := rfl
@[simp] theorem State.setIen_pend (s : State) (v : Word) : (s.setIen v).pend = s.pend := rfl
@[simp] theorem State.setIen_evtSet (s : State) (v : Word) : (s.setIen v).evtSet = s.evtSet := rfl
@[simp] theorem State.setIen_evtst (s : State) (v : Word) : (s.setIen v).evtst = s.evtst := rfl
@[simp] theorem State.setIen_ien (s : State) (v : Word) : (s.setIen v).ien = v &&& irqBits := rfl
@[simp] theorem State.setIen_rawsta (s : State) (v : Word) : (s.setIen v).rawsta = s.rawsta := rfl
@[simp] theorem State.setIen_hwresp0 (s : State) (v : Word) : (s.setIen v).hwresp0 = s.hwresp0 := rfl
@[simp] theorem State.setIen_hwresp1 (s : State) (v : Word) : (s.setIen v).hwresp1 = s.hwresp1 := rfl
@[simp] theorem State.setIen_hwresp2 (s : State) (v : Word) : (s.setIen v).hwresp2 = s.hwresp2 := rfl
@[simp] theorem State.setIen_hwresp3 (s : State) (v : Word) : (s.setIen v).hwresp3 = s.hwresp3 := rfl
@[simp] theorem State.setIen_cmdreg (s : State) (v : Word) : (s.setIen v).cmdreg = s.cmdreg := rfl
@[simp] theorem State.setIen_cmdargreg (s : State) (v : Word) : (s.setIen v).cmdargreg = s.cmdargreg := rfl
@[simp] theorem State.setIen_dlen (s : State) (v : Word) : (s.setIen v).dlen = s.dlen := rfl
@[simp] theorem State.setIen_dblk (s : State) (v : Word) : (s.setIen v).dblk = s.dblk := rfl
@[simp] theorem State.setIen_dctl (s : State) (v : Word) : (s.setIen v).dctl = s.dctl := rfl
@[simp] theorem State.setIen_ctl (s : State) (v : Word) : (s.setIen v).ctl = s.ctl := rfl
@[simp] theorem State.setIen_ovr (s : State) (v : Word) : (s.setIen v).ovr = s.ovr := rfl
@[simp] theorem State.setIen_wcnt (s : State) (v : Word) : (s.setIen v).wcnt = s.wcnt := rfl
@[simp] theorem State.setIen_spin (s : State) (v : Word) : (s.setIen v).spin = s.spin := rfl
@[simp] theorem State.setIen_dmactl (s : State) (v : Word) : (s.setIen v).dmactl = s.dmactl := rfl
@[simp] theorem State.setIen_dmalen (s : State) (v : Word) : (s.setIen v).dmalen = s.dmalen := rfl
@[simp] theorem State.setIen_buscfg (s : State) (v : Word) : (s.setIen v).buscfg = s.buscfg := rfl
@[simp] theorem State.setIen_st (s : State) (v : Word) : (s.setIen v).st = s.st := rfl
@[simp] theorem State.setIen_drainfail (s : State) (v : Word) : (s.setIen v).drainfail = s.drainfail := rfl
@[simp] theorem State.setIen_buf (s : State) (v : Word) : (s.setIen v).buf = s.buf := rfl
@[simp] theorem State.setIen_hostmem (s : State) (v : Word) : (s.setIen v).hostmem = s.hostmem := rfl
@[simp] theorem State.setIen_cardPresent (s : State) (v : Word) : (s.setIen v).cardPresent = s.cardPresent := rfl
@[simp] theorem State.setIen_waiting (s : State) (v : Word) : (s.setIen v).waiting = s.waiting := rfl
@[simp] theorem State.setIen_out (s : State) (v : Word) : (s.setIen v).out = s.out := rfl
@[simp] theorem State.setIen_params (s : State) (v : Word) : (s.setIen v).params = s.params := rfl
@[simp] theorem State.setIen_busApplied (s : State) (v : Word) : (s.setIen v).busApplied = s.busApplied := rfl
@[simp] theorem State.setIen_script (s : State) (v : Word) : (s.setIen v).script = s.script := rfl
@[simp] theorem State.setIen_duringCopy (s : State) (v : Word) : (s.setIen v).duringCopy = s.duringCopy := rfl
@[simp] theorem State.setIen_freeCount (s : State) (v : Word) : (s.setIen v).freeCount = s.freeCount := rfl

/-! ## `setRawsta` -/

@[simp] theorem State.setRawsta_bank0 (s : State) (v : Word) : (s.setRawsta v).bank0 = s.bank0 := rfl
@[simp] theorem State.setRawsta_bank1 (s : State) (v : Word) : (s.setRawsta v).bank1 = s.bank1 := rfl
@[simp] theorem State.setRawsta_phase (s : State) (v : Word) : (s.setRawsta v).phase = s.phase := rfl
@[simp] theorem State.setRawsta_xseq (s : State) (v : Word) : (s.setRawsta v).xseq = s.xseq := rfl
@[simp] theorem State.setRawsta_pend (s : State) (v : Word) : (s.setRawsta v).pend = s.pend := rfl
@[simp] theorem State.setRawsta_evtSet (s : State) (v : Word) : (s.setRawsta v).evtSet = s.evtSet := rfl
@[simp] theorem State.setRawsta_evtst (s : State) (v : Word) : (s.setRawsta v).evtst = s.evtst := rfl
@[simp] theorem State.setRawsta_ien (s : State) (v : Word) : (s.setRawsta v).ien = s.ien := rfl
@[simp] theorem State.setRawsta_rawsta (s : State) (v : Word) : (s.setRawsta v).rawsta = v &&& rawBits := rfl
@[simp] theorem State.setRawsta_hwresp0 (s : State) (v : Word) : (s.setRawsta v).hwresp0 = s.hwresp0 := rfl
@[simp] theorem State.setRawsta_hwresp1 (s : State) (v : Word) : (s.setRawsta v).hwresp1 = s.hwresp1 := rfl
@[simp] theorem State.setRawsta_hwresp2 (s : State) (v : Word) : (s.setRawsta v).hwresp2 = s.hwresp2 := rfl
@[simp] theorem State.setRawsta_hwresp3 (s : State) (v : Word) : (s.setRawsta v).hwresp3 = s.hwresp3 := rfl
@[simp] theorem State.setRawsta_cmdreg (s : State) (v : Word) : (s.setRawsta v).cmdreg = s.cmdreg := rfl
@[simp] theorem State.setRawsta_cmdargreg (s : State) (v : Word) : (s.setRawsta v).cmdargreg = s.cmdargreg := rfl
@[simp] theorem State.setRawsta_dlen (s : State) (v : Word) : (s.setRawsta v).dlen = s.dlen := rfl
@[simp] theorem State.setRawsta_dblk (s : State) (v : Word) : (s.setRawsta v).dblk = s.dblk := rfl
@[simp] theorem State.setRawsta_dctl (s : State) (v : Word) : (s.setRawsta v).dctl = s.dctl := rfl
@[simp] theorem State.setRawsta_ctl (s : State) (v : Word) : (s.setRawsta v).ctl = s.ctl := rfl
@[simp] theorem State.setRawsta_ovr (s : State) (v : Word) : (s.setRawsta v).ovr = s.ovr := rfl
@[simp] theorem State.setRawsta_wcnt (s : State) (v : Word) : (s.setRawsta v).wcnt = s.wcnt := rfl
@[simp] theorem State.setRawsta_spin (s : State) (v : Word) : (s.setRawsta v).spin = s.spin := rfl
@[simp] theorem State.setRawsta_dmactl (s : State) (v : Word) : (s.setRawsta v).dmactl = s.dmactl := rfl
@[simp] theorem State.setRawsta_dmalen (s : State) (v : Word) : (s.setRawsta v).dmalen = s.dmalen := rfl
@[simp] theorem State.setRawsta_buscfg (s : State) (v : Word) : (s.setRawsta v).buscfg = s.buscfg := rfl
@[simp] theorem State.setRawsta_st (s : State) (v : Word) : (s.setRawsta v).st = s.st := rfl
@[simp] theorem State.setRawsta_drainfail (s : State) (v : Word) : (s.setRawsta v).drainfail = s.drainfail := rfl
@[simp] theorem State.setRawsta_buf (s : State) (v : Word) : (s.setRawsta v).buf = s.buf := rfl
@[simp] theorem State.setRawsta_hostmem (s : State) (v : Word) : (s.setRawsta v).hostmem = s.hostmem := rfl
@[simp] theorem State.setRawsta_cardPresent (s : State) (v : Word) : (s.setRawsta v).cardPresent = s.cardPresent := rfl
@[simp] theorem State.setRawsta_waiting (s : State) (v : Word) : (s.setRawsta v).waiting = s.waiting := rfl
@[simp] theorem State.setRawsta_out (s : State) (v : Word) : (s.setRawsta v).out = s.out := rfl
@[simp] theorem State.setRawsta_params (s : State) (v : Word) : (s.setRawsta v).params = s.params := rfl
@[simp] theorem State.setRawsta_busApplied (s : State) (v : Word) : (s.setRawsta v).busApplied = s.busApplied := rfl
@[simp] theorem State.setRawsta_script (s : State) (v : Word) : (s.setRawsta v).script = s.script := rfl
@[simp] theorem State.setRawsta_duringCopy (s : State) (v : Word) : (s.setRawsta v).duringCopy = s.duringCopy := rfl
@[simp] theorem State.setRawsta_freeCount (s : State) (v : Word) : (s.setRawsta v).freeCount = s.freeCount := rfl

/-! ## `setBusy` -/

@[simp] theorem State.setBusy_bank0 (s : State) (b : Bool) : (s.setBusy b).bank0 = s.bank0 := rfl
@[simp] theorem State.setBusy_bank1 (s : State) (b : Bool) : (s.setBusy b).bank1 = s.bank1 := rfl
@[simp] theorem State.setBusy_phase (s : State) (b : Bool) : (s.setBusy b).phase = s.phase := rfl
@[simp] theorem State.setBusy_xseq (s : State) (b : Bool) : (s.setBusy b).xseq = s.xseq := rfl
@[simp] theorem State.setBusy_pend (s : State) (b : Bool) : (s.setBusy b).pend = s.pend := rfl
@[simp] theorem State.setBusy_evtSet (s : State) (b : Bool) : (s.setBusy b).evtSet = s.evtSet := rfl
@[simp] theorem State.setBusy_evtst (s : State) (b : Bool) : (s.setBusy b).evtst = s.evtst := rfl
@[simp] theorem State.setBusy_ien (s : State) (b : Bool) : (s.setBusy b).ien = s.ien := rfl
@[simp] theorem State.setBusy_rawsta (s : State) (b : Bool) : (s.setBusy b).rawsta = s.rawsta := rfl
@[simp] theorem State.setBusy_hwresp0 (s : State) (b : Bool) : (s.setBusy b).hwresp0 = s.hwresp0 := rfl
@[simp] theorem State.setBusy_hwresp1 (s : State) (b : Bool) : (s.setBusy b).hwresp1 = s.hwresp1 := rfl
@[simp] theorem State.setBusy_hwresp2 (s : State) (b : Bool) : (s.setBusy b).hwresp2 = s.hwresp2 := rfl
@[simp] theorem State.setBusy_hwresp3 (s : State) (b : Bool) : (s.setBusy b).hwresp3 = s.hwresp3 := rfl
@[simp] theorem State.setBusy_cmdreg (s : State) (b : Bool) : (s.setBusy b).cmdreg = s.cmdreg := rfl
@[simp] theorem State.setBusy_cmdargreg (s : State) (b : Bool) : (s.setBusy b).cmdargreg = s.cmdargreg := rfl
@[simp] theorem State.setBusy_dlen (s : State) (b : Bool) : (s.setBusy b).dlen = s.dlen := rfl
@[simp] theorem State.setBusy_dblk (s : State) (b : Bool) : (s.setBusy b).dblk = s.dblk := rfl
@[simp] theorem State.setBusy_dctl (s : State) (b : Bool) : (s.setBusy b).dctl = s.dctl := rfl
@[simp] theorem State.setBusy_ctl (s : State) (b : Bool) : (s.setBusy b).ctl = { s.ctl with busy := b } := rfl
@[simp] theorem State.setBusy_ovr (s : State) (b : Bool) : (s.setBusy b).ovr = s.ovr := rfl
@[simp] theorem State.setBusy_wcnt (s : State) (b : Bool) : (s.setBusy b).wcnt = s.wcnt := rfl
@[simp] theorem State.setBusy_spin (s : State) (b : Bool) : (s.setBusy b).spin = s.spin := rfl
@[simp] theorem State.setBusy_dmactl (s : State) (b : Bool) : (s.setBusy b).dmactl = s.dmactl := rfl
@[simp] theorem State.setBusy_dmalen (s : State) (b : Bool) : (s.setBusy b).dmalen = s.dmalen := rfl
@[simp] theorem State.setBusy_buscfg (s : State) (b : Bool) : (s.setBusy b).buscfg = s.buscfg := rfl
@[simp] theorem State.setBusy_st (s : State) (b : Bool) : (s.setBusy b).st = s.st := rfl
@[simp] theorem State.setBusy_drainfail (s : State) (b : Bool) : (s.setBusy b).drainfail = s.drainfail := rfl
@[simp] theorem State.setBusy_buf (s : State) (b : Bool) : (s.setBusy b).buf = s.buf := rfl
@[simp] theorem State.setBusy_hostmem (s : State) (b : Bool) : (s.setBusy b).hostmem = s.hostmem := rfl
@[simp] theorem State.setBusy_cardPresent (s : State) (b : Bool) : (s.setBusy b).cardPresent = s.cardPresent := rfl
@[simp] theorem State.setBusy_waiting (s : State) (b : Bool) : (s.setBusy b).waiting = s.waiting := rfl
@[simp] theorem State.setBusy_out (s : State) (b : Bool) : (s.setBusy b).out = s.out := rfl
@[simp] theorem State.setBusy_params (s : State) (b : Bool) : (s.setBusy b).params = s.params := rfl
@[simp] theorem State.setBusy_busApplied (s : State) (b : Bool) : (s.setBusy b).busApplied = s.busApplied := rfl
@[simp] theorem State.setBusy_script (s : State) (b : Bool) : (s.setBusy b).script = s.script := rfl
@[simp] theorem State.setBusy_duringCopy (s : State) (b : Bool) : (s.setBusy b).duringCopy = s.duringCopy := rfl
@[simp] theorem State.setBusy_freeCount (s : State) (b : Bool) : (s.setBusy b).freeCount = s.freeCount := rfl

/-! ## `setCtlen` -/

@[simp] theorem State.setCtlen_bank0 (s : State) (b : Bool) : (s.setCtlen b).bank0 = s.bank0 := rfl
@[simp] theorem State.setCtlen_bank1 (s : State) (b : Bool) : (s.setCtlen b).bank1 = s.bank1 := rfl
@[simp] theorem State.setCtlen_phase (s : State) (b : Bool) : (s.setCtlen b).phase = s.phase := rfl
@[simp] theorem State.setCtlen_xseq (s : State) (b : Bool) : (s.setCtlen b).xseq = s.xseq := rfl
@[simp] theorem State.setCtlen_pend (s : State) (b : Bool) : (s.setCtlen b).pend = s.pend := rfl
@[simp] theorem State.setCtlen_evtSet (s : State) (b : Bool) : (s.setCtlen b).evtSet = s.evtSet := rfl
@[simp] theorem State.setCtlen_evtst (s : State) (b : Bool) : (s.setCtlen b).evtst = s.evtst := rfl
@[simp] theorem State.setCtlen_ien (s : State) (b : Bool) : (s.setCtlen b).ien = s.ien := rfl
@[simp] theorem State.setCtlen_rawsta (s : State) (b : Bool) : (s.setCtlen b).rawsta = s.rawsta := rfl
@[simp] theorem State.setCtlen_hwresp0 (s : State) (b : Bool) : (s.setCtlen b).hwresp0 = s.hwresp0 := rfl
@[simp] theorem State.setCtlen_hwresp1 (s : State) (b : Bool) : (s.setCtlen b).hwresp1 = s.hwresp1 := rfl
@[simp] theorem State.setCtlen_hwresp2 (s : State) (b : Bool) : (s.setCtlen b).hwresp2 = s.hwresp2 := rfl
@[simp] theorem State.setCtlen_hwresp3 (s : State) (b : Bool) : (s.setCtlen b).hwresp3 = s.hwresp3 := rfl
@[simp] theorem State.setCtlen_cmdreg (s : State) (b : Bool) : (s.setCtlen b).cmdreg = s.cmdreg := rfl
@[simp] theorem State.setCtlen_cmdargreg (s : State) (b : Bool) : (s.setCtlen b).cmdargreg = s.cmdargreg := rfl
@[simp] theorem State.setCtlen_dlen (s : State) (b : Bool) : (s.setCtlen b).dlen = s.dlen := rfl
@[simp] theorem State.setCtlen_dblk (s : State) (b : Bool) : (s.setCtlen b).dblk = s.dblk := rfl
@[simp] theorem State.setCtlen_dctl (s : State) (b : Bool) : (s.setCtlen b).dctl = s.dctl := rfl
@[simp] theorem State.setCtlen_ctl (s : State) (b : Bool) : (s.setCtlen b).ctl = { s.ctl with ctlen := b } := rfl
@[simp] theorem State.setCtlen_ovr (s : State) (b : Bool) : (s.setCtlen b).ovr = s.ovr := rfl
@[simp] theorem State.setCtlen_wcnt (s : State) (b : Bool) : (s.setCtlen b).wcnt = s.wcnt := rfl
@[simp] theorem State.setCtlen_spin (s : State) (b : Bool) : (s.setCtlen b).spin = s.spin := rfl
@[simp] theorem State.setCtlen_dmactl (s : State) (b : Bool) : (s.setCtlen b).dmactl = s.dmactl := rfl
@[simp] theorem State.setCtlen_dmalen (s : State) (b : Bool) : (s.setCtlen b).dmalen = s.dmalen := rfl
@[simp] theorem State.setCtlen_buscfg (s : State) (b : Bool) : (s.setCtlen b).buscfg = s.buscfg := rfl
@[simp] theorem State.setCtlen_st (s : State) (b : Bool) : (s.setCtlen b).st = s.st := rfl
@[simp] theorem State.setCtlen_drainfail (s : State) (b : Bool) : (s.setCtlen b).drainfail = s.drainfail := rfl
@[simp] theorem State.setCtlen_buf (s : State) (b : Bool) : (s.setCtlen b).buf = s.buf := rfl
@[simp] theorem State.setCtlen_hostmem (s : State) (b : Bool) : (s.setCtlen b).hostmem = s.hostmem := rfl
@[simp] theorem State.setCtlen_cardPresent (s : State) (b : Bool) : (s.setCtlen b).cardPresent = s.cardPresent := rfl
@[simp] theorem State.setCtlen_waiting (s : State) (b : Bool) : (s.setCtlen b).waiting = s.waiting := rfl
@[simp] theorem State.setCtlen_out (s : State) (b : Bool) : (s.setCtlen b).out = s.out := rfl
@[simp] theorem State.setCtlen_params (s : State) (b : Bool) : (s.setCtlen b).params = s.params := rfl
@[simp] theorem State.setCtlen_busApplied (s : State) (b : Bool) : (s.setCtlen b).busApplied = s.busApplied := rfl
@[simp] theorem State.setCtlen_script (s : State) (b : Bool) : (s.setCtlen b).script = s.script := rfl
@[simp] theorem State.setCtlen_duringCopy (s : State) (b : Bool) : (s.setCtlen b).duringCopy = s.duringCopy := rfl
@[simp] theorem State.setCtlen_freeCount (s : State) (b : Bool) : (s.setCtlen b).freeCount = s.freeCount := rfl

/-! ## `setPhase` -/

@[simp] theorem State.setPhase_bank0 (s : State) (p : Phase) : (s.setPhase p).bank0 = s.bank0 := rfl
@[simp] theorem State.setPhase_bank1 (s : State) (p : Phase) : (s.setPhase p).bank1 = s.bank1 := rfl
@[simp] theorem State.setPhase_phase (s : State) (p : Phase) : (s.setPhase p).phase = p := rfl
@[simp] theorem State.setPhase_xseq (s : State) (p : Phase) : (s.setPhase p).xseq = s.xseq := rfl
@[simp] theorem State.setPhase_pend (s : State) (p : Phase) : (s.setPhase p).pend = s.pend := rfl
@[simp] theorem State.setPhase_evtSet (s : State) (p : Phase) : (s.setPhase p).evtSet = s.evtSet := rfl
@[simp] theorem State.setPhase_evtst (s : State) (p : Phase) : (s.setPhase p).evtst = s.evtst := rfl
@[simp] theorem State.setPhase_ien (s : State) (p : Phase) : (s.setPhase p).ien = s.ien := rfl
@[simp] theorem State.setPhase_rawsta (s : State) (p : Phase) : (s.setPhase p).rawsta = s.rawsta := rfl
@[simp] theorem State.setPhase_hwresp0 (s : State) (p : Phase) : (s.setPhase p).hwresp0 = s.hwresp0 := rfl
@[simp] theorem State.setPhase_hwresp1 (s : State) (p : Phase) : (s.setPhase p).hwresp1 = s.hwresp1 := rfl
@[simp] theorem State.setPhase_hwresp2 (s : State) (p : Phase) : (s.setPhase p).hwresp2 = s.hwresp2 := rfl
@[simp] theorem State.setPhase_hwresp3 (s : State) (p : Phase) : (s.setPhase p).hwresp3 = s.hwresp3 := rfl
@[simp] theorem State.setPhase_cmdreg (s : State) (p : Phase) : (s.setPhase p).cmdreg = s.cmdreg := rfl
@[simp] theorem State.setPhase_cmdargreg (s : State) (p : Phase) : (s.setPhase p).cmdargreg = s.cmdargreg := rfl
@[simp] theorem State.setPhase_dlen (s : State) (p : Phase) : (s.setPhase p).dlen = s.dlen := rfl
@[simp] theorem State.setPhase_dblk (s : State) (p : Phase) : (s.setPhase p).dblk = s.dblk := rfl
@[simp] theorem State.setPhase_dctl (s : State) (p : Phase) : (s.setPhase p).dctl = s.dctl := rfl
@[simp] theorem State.setPhase_ctl (s : State) (p : Phase) : (s.setPhase p).ctl = s.ctl := rfl
@[simp] theorem State.setPhase_ovr (s : State) (p : Phase) : (s.setPhase p).ovr = s.ovr := rfl
@[simp] theorem State.setPhase_wcnt (s : State) (p : Phase) : (s.setPhase p).wcnt = s.wcnt := rfl
@[simp] theorem State.setPhase_spin (s : State) (p : Phase) : (s.setPhase p).spin = s.spin := rfl
@[simp] theorem State.setPhase_dmactl (s : State) (p : Phase) : (s.setPhase p).dmactl = s.dmactl := rfl
@[simp] theorem State.setPhase_dmalen (s : State) (p : Phase) : (s.setPhase p).dmalen = s.dmalen := rfl
@[simp] theorem State.setPhase_buscfg (s : State) (p : Phase) : (s.setPhase p).buscfg = s.buscfg := rfl
@[simp] theorem State.setPhase_st (s : State) (p : Phase) : (s.setPhase p).st = s.st := rfl
@[simp] theorem State.setPhase_drainfail (s : State) (p : Phase) : (s.setPhase p).drainfail = s.drainfail := rfl
@[simp] theorem State.setPhase_buf (s : State) (p : Phase) : (s.setPhase p).buf = s.buf := rfl
@[simp] theorem State.setPhase_hostmem (s : State) (p : Phase) : (s.setPhase p).hostmem = s.hostmem := rfl
@[simp] theorem State.setPhase_cardPresent (s : State) (p : Phase) : (s.setPhase p).cardPresent = s.cardPresent := rfl
@[simp] theorem State.setPhase_waiting (s : State) (p : Phase) : (s.setPhase p).waiting = s.waiting := rfl
@[simp] theorem State.setPhase_out (s : State) (p : Phase) : (s.setPhase p).out = s.out := rfl
@[simp] theorem State.setPhase_params (s : State) (p : Phase) : (s.setPhase p).params = s.params := rfl
@[simp] theorem State.setPhase_busApplied (s : State) (p : Phase) : (s.setPhase p).busApplied = s.busApplied := rfl
@[simp] theorem State.setPhase_script (s : State) (p : Phase) : (s.setPhase p).script = s.script := rfl
@[simp] theorem State.setPhase_duringCopy (s : State) (p : Phase) : (s.setPhase p).duringCopy = s.duringCopy := rfl
@[simp] theorem State.setPhase_freeCount (s : State) (p : Phase) : (s.setPhase p).freeCount = s.freeCount := rfl

/-! ## `setStage` -/

@[simp] theorem State.setStage_bank0 (s : State) (g : Stage) : (s.setStage g).bank0 = s.bank0 := rfl
@[simp] theorem State.setStage_bank1 (s : State) (g : Stage) : (s.setStage g).bank1 = s.bank1 := rfl
@[simp] theorem State.setStage_phase (s : State) (g : Stage) : (s.setStage g).phase = s.phase := rfl
@[simp] theorem State.setStage_xseq (s : State) (g : Stage) : (s.setStage g).xseq = { s.xseq with stage := g } := rfl
@[simp] theorem State.setStage_pend (s : State) (g : Stage) : (s.setStage g).pend = s.pend := rfl
@[simp] theorem State.setStage_evtSet (s : State) (g : Stage) : (s.setStage g).evtSet = s.evtSet := rfl
@[simp] theorem State.setStage_evtst (s : State) (g : Stage) : (s.setStage g).evtst = s.evtst := rfl
@[simp] theorem State.setStage_ien (s : State) (g : Stage) : (s.setStage g).ien = s.ien := rfl
@[simp] theorem State.setStage_rawsta (s : State) (g : Stage) : (s.setStage g).rawsta = s.rawsta := rfl
@[simp] theorem State.setStage_hwresp0 (s : State) (g : Stage) : (s.setStage g).hwresp0 = s.hwresp0 := rfl
@[simp] theorem State.setStage_hwresp1 (s : State) (g : Stage) : (s.setStage g).hwresp1 = s.hwresp1 := rfl
@[simp] theorem State.setStage_hwresp2 (s : State) (g : Stage) : (s.setStage g).hwresp2 = s.hwresp2 := rfl
@[simp] theorem State.setStage_hwresp3 (s : State) (g : Stage) : (s.setStage g).hwresp3 = s.hwresp3 := rfl
@[simp] theorem State.setStage_cmdreg (s : State) (g : Stage) : (s.setStage g).cmdreg = s.cmdreg := rfl
@[simp] theorem State.setStage_cmdargreg (s : State) (g : Stage) : (s.setStage g).cmdargreg = s.cmdargreg := rfl
@[simp] theorem State.setStage_dlen (s : State) (g : Stage) : (s.setStage g).dlen = s.dlen := rfl
@[simp] theorem State.setStage_dblk (s : State) (g : Stage) : (s.setStage g).dblk = s.dblk := rfl
@[simp] theorem State.setStage_dctl (s : State) (g : Stage) : (s.setStage g).dctl = s.dctl := rfl
@[simp] theorem State.setStage_ctl (s : State) (g : Stage) : (s.setStage g).ctl = s.ctl := rfl
@[simp] theorem State.setStage_ovr (s : State) (g : Stage) : (s.setStage g).ovr = s.ovr := rfl
@[simp] theorem State.setStage_wcnt (s : State) (g : Stage) : (s.setStage g).wcnt = s.wcnt := rfl
@[simp] theorem State.setStage_spin (s : State) (g : Stage) : (s.setStage g).spin = s.spin := rfl
@[simp] theorem State.setStage_dmactl (s : State) (g : Stage) : (s.setStage g).dmactl = s.dmactl := rfl
@[simp] theorem State.setStage_dmalen (s : State) (g : Stage) : (s.setStage g).dmalen = s.dmalen := rfl
@[simp] theorem State.setStage_buscfg (s : State) (g : Stage) : (s.setStage g).buscfg = s.buscfg := rfl
@[simp] theorem State.setStage_st (s : State) (g : Stage) : (s.setStage g).st = s.st := rfl
@[simp] theorem State.setStage_drainfail (s : State) (g : Stage) : (s.setStage g).drainfail = s.drainfail := rfl
@[simp] theorem State.setStage_buf (s : State) (g : Stage) : (s.setStage g).buf = s.buf := rfl
@[simp] theorem State.setStage_hostmem (s : State) (g : Stage) : (s.setStage g).hostmem = s.hostmem := rfl
@[simp] theorem State.setStage_cardPresent (s : State) (g : Stage) : (s.setStage g).cardPresent = s.cardPresent := rfl
@[simp] theorem State.setStage_waiting (s : State) (g : Stage) : (s.setStage g).waiting = s.waiting := rfl
@[simp] theorem State.setStage_out (s : State) (g : Stage) : (s.setStage g).out = s.out := rfl
@[simp] theorem State.setStage_params (s : State) (g : Stage) : (s.setStage g).params = s.params := rfl
@[simp] theorem State.setStage_busApplied (s : State) (g : Stage) : (s.setStage g).busApplied = s.busApplied := rfl
@[simp] theorem State.setStage_script (s : State) (g : Stage) : (s.setStage g).script = s.script := rfl
@[simp] theorem State.setStage_duringCopy (s : State) (g : Stage) : (s.setStage g).duringCopy = s.duringCopy := rfl
@[simp] theorem State.setStage_freeCount (s : State) (g : Stage) : (s.setStage g).freeCount = s.freeCount := rfl

/-! ## `clearPend` -/

@[simp] theorem State.clearPend_bank0 (s : State) : (s.clearPend).bank0 = s.bank0 := rfl
@[simp] theorem State.clearPend_bank1 (s : State) : (s.clearPend).bank1 = s.bank1 := rfl
@[simp] theorem State.clearPend_phase (s : State) : (s.clearPend).phase = s.phase := rfl
@[simp] theorem State.clearPend_xseq (s : State) : (s.clearPend).xseq = s.xseq := rfl
@[simp] theorem State.clearPend_pend (s : State) : (s.clearPend).pend = { s.pend with valid := false } := rfl
@[simp] theorem State.clearPend_evtSet (s : State) : (s.clearPend).evtSet = s.evtSet := rfl
@[simp] theorem State.clearPend_evtst (s : State) : (s.clearPend).evtst = s.evtst := rfl
@[simp] theorem State.clearPend_ien (s : State) : (s.clearPend).ien = s.ien := rfl
@[simp] theorem State.clearPend_rawsta (s : State) : (s.clearPend).rawsta = s.rawsta := rfl
@[simp] theorem State.clearPend_hwresp0 (s : State) : (s.clearPend).hwresp0 = s.hwresp0 := rfl
@[simp] theorem State.clearPend_hwresp1 (s : State) : (s.clearPend).hwresp1 = s.hwresp1 := rfl
@[simp] theorem State.clearPend_hwresp2 (s : State) : (s.clearPend).hwresp2 = s.hwresp2 := rfl
@[simp] theorem State.clearPend_hwresp3 (s : State) : (s.clearPend).hwresp3 = s.hwresp3 := rfl
@[simp] theorem State.clearPend_cmdreg (s : State) : (s.clearPend).cmdreg = s.cmdreg := rfl
@[simp] theorem State.clearPend_cmdargreg (s : State) : (s.clearPend).cmdargreg = s.cmdargreg := rfl
@[simp] theorem State.clearPend_dlen (s : State) : (s.clearPend).dlen = s.dlen := rfl
@[simp] theorem State.clearPend_dblk (s : State) : (s.clearPend).dblk = s.dblk := rfl
@[simp] theorem State.clearPend_dctl (s : State) : (s.clearPend).dctl = s.dctl := rfl
@[simp] theorem State.clearPend_ctl (s : State) : (s.clearPend).ctl = s.ctl := rfl
@[simp] theorem State.clearPend_ovr (s : State) : (s.clearPend).ovr = s.ovr := rfl
@[simp] theorem State.clearPend_wcnt (s : State) : (s.clearPend).wcnt = s.wcnt := rfl
@[simp] theorem State.clearPend_spin (s : State) : (s.clearPend).spin = s.spin := rfl
@[simp] theorem State.clearPend_dmactl (s : State) : (s.clearPend).dmactl = s.dmactl := rfl
@[simp] theorem State.clearPend_dmalen (s : State) : (s.clearPend).dmalen = s.dmalen := rfl
@[simp] theorem State.clearPend_buscfg (s : State) : (s.clearPend).buscfg = s.buscfg := rfl
@[simp] theorem State.clearPend_st (s : State) : (s.clearPend).st = s.st := rfl
@[simp] theorem State.clearPend_drainfail (s : State) : (s.clearPend).drainfail = s.drainfail := rfl
@[simp] theorem State.clearPend_buf (s : State) : (s.clearPend).buf = s.buf := rfl
@[simp] theorem State.clearPend_hostmem (s : State) : (s.clearPend).hostmem = s.hostmem := rfl
@[simp] theorem State.clearPend_cardPresent (s : State) : (s.clearPend).cardPresent = s.cardPresent := rfl
@[simp] theorem State.clearPend_waiting (s : State) : (s.clearPend).waiting = s.waiting := rfl
@[simp] theorem State.clearPend_out (s : State) : (s.clearPend).out = s.out := rfl
@[simp] theorem State.clearPend_params (s : State) : (s.clearPend).params = s.params := rfl
@[simp] theorem State.clearPend_busApplied (s : State) : (s.clearPend).busApplied = s.busApplied := rfl
@[simp] theorem State.clearPend_script (s : State) : (s.clearPend).script = s.script := rfl
@[simp] theorem State.clearPend_duringCopy (s : State) : (s.clearPend).duringCopy = s.duringCopy := rfl
@[simp] theorem State.clearPend_freeCount (s : State) : (s.clearPend).freeCount = s.freeCount := rfl

/-! ## `emit` -/

@[simp] theorem State.emit_bank0 (s : State) (o : Output) : (s.emit o).bank0 = s.bank0 := rfl
@[simp] theorem State.emit_bank1 (s : State) (o : Output) : (s.emit o).bank1 = s.bank1 := rfl
@[simp] theorem State.emit_phase (s : State) (o : Output) : (s.emit o).phase = s.phase := rfl
@[simp] theorem State.emit_xseq (s : State) (o : Output) : (s.emit o).xseq = s.xseq := rfl
@[simp] theorem State.emit_pend (s : State) (o : Output) : (s.emit o).pend = s.pend := rfl
@[simp] theorem State.emit_evtSet (s : State) (o : Output) : (s.emit o).evtSet = s.evtSet := rfl
@[simp] theorem State.emit_evtst (s : State) (o : Output) : (s.emit o).evtst = s.evtst := rfl
@[simp] theorem State.emit_ien (s : State) (o : Output) : (s.emit o).ien = s.ien := rfl
@[simp] theorem State.emit_rawsta (s : State) (o : Output) : (s.emit o).rawsta = s.rawsta := rfl
@[simp] theorem State.emit_hwresp0 (s : State) (o : Output) : (s.emit o).hwresp0 = s.hwresp0 := rfl
@[simp] theorem State.emit_hwresp1 (s : State) (o : Output) : (s.emit o).hwresp1 = s.hwresp1 := rfl
@[simp] theorem State.emit_hwresp2 (s : State) (o : Output) : (s.emit o).hwresp2 = s.hwresp2 := rfl
@[simp] theorem State.emit_hwresp3 (s : State) (o : Output) : (s.emit o).hwresp3 = s.hwresp3 := rfl
@[simp] theorem State.emit_cmdreg (s : State) (o : Output) : (s.emit o).cmdreg = s.cmdreg := rfl
@[simp] theorem State.emit_cmdargreg (s : State) (o : Output) : (s.emit o).cmdargreg = s.cmdargreg := rfl
@[simp] theorem State.emit_dlen (s : State) (o : Output) : (s.emit o).dlen = s.dlen := rfl
@[simp] theorem State.emit_dblk (s : State) (o : Output) : (s.emit o).dblk = s.dblk := rfl
@[simp] theorem State.emit_dctl (s : State) (o : Output) : (s.emit o).dctl = s.dctl := rfl
@[simp] theorem State.emit_ctl (s : State) (o : Output) : (s.emit o).ctl = s.ctl := rfl
@[simp] theorem State.emit_ovr (s : State) (o : Output) : (s.emit o).ovr = s.ovr := rfl
@[simp] theorem State.emit_wcnt (s : State) (o : Output) : (s.emit o).wcnt = s.wcnt := rfl
@[simp] theorem State.emit_spin (s : State) (o : Output) : (s.emit o).spin = s.spin := rfl
@[simp] theorem State.emit_dmactl (s : State) (o : Output) : (s.emit o).dmactl = s.dmactl := rfl
@[simp] theorem State.emit_dmalen (s : State) (o : Output) : (s.emit o).dmalen = s.dmalen := rfl
@[simp] theorem State.emit_buscfg (s : State) (o : Output) : (s.emit o).buscfg = s.buscfg := rfl
@[simp] theorem State.emit_st (s : State) (o : Output) : (s.emit o).st = s.st := rfl
@[simp] theorem State.emit_drainfail (s : State) (o : Output) : (s.emit o).drainfail = s.drainfail := rfl
@[simp] theorem State.emit_buf (s : State) (o : Output) : (s.emit o).buf = s.buf := rfl
@[simp] theorem State.emit_hostmem (s : State) (o : Output) : (s.emit o).hostmem = s.hostmem := rfl
@[simp] theorem State.emit_cardPresent (s : State) (o : Output) : (s.emit o).cardPresent = s.cardPresent := rfl
@[simp] theorem State.emit_waiting (s : State) (o : Output) : (s.emit o).waiting = s.waiting := rfl
@[simp] theorem State.emit_out (s : State) (o : Output) : (s.emit o).out = o :: s.out := rfl
@[simp] theorem State.emit_params (s : State) (o : Output) : (s.emit o).params = s.params := rfl
@[simp] theorem State.emit_busApplied (s : State) (o : Output) : (s.emit o).busApplied = s.busApplied := rfl
@[simp] theorem State.emit_script (s : State) (o : Output) : (s.emit o).script = s.script := rfl
@[simp] theorem State.emit_duringCopy (s : State) (o : Output) : (s.emit o).duringCopy = s.duringCopy := rfl
@[simp] theorem State.emit_freeCount (s : State) (o : Output) : (s.emit o).freeCount = s.freeCount := rfl

/-! ## `dmaArm` -/

@[simp] theorem State.dmaArm_bank0 (s : State) (d : Dir) (n : Nat) (w : MemWidth) : (s.dmaArm d n w).bank0 = s.bank0 := rfl
@[simp] theorem State.dmaArm_bank1 (s : State) (d : Dir) (n : Nat) (w : MemWidth) : (s.dmaArm d n w).bank1 = s.bank1 := rfl
@[simp] theorem State.dmaArm_phase (s : State) (d : Dir) (n : Nat) (w : MemWidth) : (s.dmaArm d n w).phase = s.phase := rfl
@[simp] theorem State.dmaArm_xseq (s : State) (d : Dir) (n : Nat) (w : MemWidth) : (s.dmaArm d n w).xseq = s.xseq := rfl
@[simp] theorem State.dmaArm_pend (s : State) (d : Dir) (n : Nat) (w : MemWidth) : (s.dmaArm d n w).pend = s.pend := rfl
@[simp] theorem State.dmaArm_evtSet (s : State) (d : Dir) (n : Nat) (w : MemWidth) : (s.dmaArm d n w).evtSet = s.evtSet := rfl
@[simp] theorem State.dmaArm_evtst (s : State) (d : Dir) (n : Nat) (w : MemWidth) : (s.dmaArm d n w).evtst = s.evtst := rfl
@[simp] theorem State.dmaArm_ien (s : State) (d : Dir) (n : Nat) (w : MemWidth) : (s.dmaArm d n w).ien = s.ien := rfl
@[simp] theorem State.dmaArm_rawsta (s : State) (d : Dir) (n : Nat) (w : MemWidth) : (s.dmaArm d n w).rawsta = s.rawsta := rfl
@[simp] theorem State.dmaArm_hwresp0 (s : State) (d : Dir) (n : Nat) (w : MemWidth) : (s.dmaArm d n w).hwresp0 = s.hwresp0 := rfl
@[simp] theorem State.dmaArm_hwresp1 (s : State) (d : Dir) (n : Nat) (w : MemWidth) : (s.dmaArm d n w).hwresp1 = s.hwresp1 := rfl
@[simp] theorem State.dmaArm_hwresp2 (s : State) (d : Dir) (n : Nat) (w : MemWidth) : (s.dmaArm d n w).hwresp2 = s.hwresp2 := rfl
@[simp] theorem State.dmaArm_hwresp3 (s : State) (d : Dir) (n : Nat) (w : MemWidth) : (s.dmaArm d n w).hwresp3 = s.hwresp3 := rfl
@[simp] theorem State.dmaArm_cmdreg (s : State) (d : Dir) (n : Nat) (w : MemWidth) : (s.dmaArm d n w).cmdreg = s.cmdreg := rfl
@[simp] theorem State.dmaArm_cmdargreg (s : State) (d : Dir) (n : Nat) (w : MemWidth) : (s.dmaArm d n w).cmdargreg = s.cmdargreg := rfl
@[simp] theorem State.dmaArm_dlen (s : State) (d : Dir) (n : Nat) (w : MemWidth) : (s.dmaArm d n w).dlen = s.dlen := rfl
@[simp] theorem State.dmaArm_dblk (s : State) (d : Dir) (n : Nat) (w : MemWidth) : (s.dmaArm d n w).dblk = s.dblk := rfl
@[simp] theorem State.dmaArm_dctl (s : State) (d : Dir) (n : Nat) (w : MemWidth) : (s.dmaArm d n w).dctl = s.dctl := rfl
@[simp] theorem State.dmaArm_ctl (s : State) (d : Dir) (n : Nat) (w : MemWidth) : (s.dmaArm d n w).ctl = s.ctl := rfl
@[simp] theorem State.dmaArm_ovr (s : State) (d : Dir) (n : Nat) (w : MemWidth) : (s.dmaArm d n w).ovr = s.ovr := rfl
@[simp] theorem State.dmaArm_wcnt (s : State) (d : Dir) (n : Nat) (w : MemWidth) : (s.dmaArm d n w).wcnt = s.wcnt := rfl
@[simp] theorem State.dmaArm_spin (s : State) (d : Dir) (n : Nat) (w : MemWidth) : (s.dmaArm d n w).spin = s.spin := rfl
@[simp] theorem State.dmaArm_dmactl (s : State) (d : Dir) (n : Nat) (w : MemWidth) : (s.dmaArm d n w).dmactl = ⟨true, d, w⟩ := rfl
@[simp] theorem State.dmaArm_dmalen (s : State) (d : Dir) (n : Nat) (w : MemWidth) : (s.dmaArm d n w).dmalen = BitVec.ofNat 32 n := rfl
@[simp] theorem State.dmaArm_buscfg (s : State) (d : Dir) (n : Nat) (w : MemWidth) : (s.dmaArm d n w).buscfg = s.buscfg := rfl
@[simp] theorem State.dmaArm_st (s : State) (d : Dir) (n : Nat) (w : MemWidth) : (s.dmaArm d n w).st = s.st := rfl
@[simp] theorem State.dmaArm_drainfail (s : State) (d : Dir) (n : Nat) (w : MemWidth) : (s.dmaArm d n w).drainfail = s.drainfail := rfl
@[simp] theorem State.dmaArm_buf (s : State) (d : Dir) (n : Nat) (w : MemWidth) : (s.dmaArm d n w).buf = s.buf := rfl
@[simp] theorem State.dmaArm_hostmem (s : State) (d : Dir) (n : Nat) (w : MemWidth) : (s.dmaArm d n w).hostmem = s.hostmem := rfl
@[simp] theorem State.dmaArm_cardPresent (s : State) (d : Dir) (n : Nat) (w : MemWidth) : (s.dmaArm d n w).cardPresent = s.cardPresent := rfl
@[simp] theorem State.dmaArm_waiting (s : State) (d : Dir) (n : Nat) (w : MemWidth) : (s.dmaArm d n w).waiting = s.waiting := rfl
@[simp] theorem State.dmaArm_out (s : State) (d : Dir) (n : Nat) (w : MemWidth) : (s.dmaArm d n w).out = s.out := rfl
@[simp] theorem State.dmaArm_params (s : State) (d : Dir) (n : Nat) (w : MemWidth) : (s.dmaArm d n w).params = s.params := rfl
@[simp] theorem State.dmaArm_busApplied (s : State) (d : Dir) (n : Nat) (w : MemWidth) : (s.dmaArm d n w).busApplied = s.busApplied := rfl
@[simp] theorem State.dmaArm_script (s : State) (d : Dir) (n : Nat) (w : MemWidth) : (s.dmaArm d n w).script = s.script := rfl
@[simp] theorem State.dmaArm_duringCopy (s : State) (d : Dir) (n : Nat) (w : MemWidth) : (s.dmaArm d n w).duringCopy = s.duringCopy := rfl
@[simp] theorem State.dmaArm_freeCount (s : State) (d : Dir) (n : Nat) (w : MemWidth) : (s.dmaArm d n w).freeCount = s.freeCount := rfl

/-! ## `dmaDisable` -/

@[simp] theorem State.dmaDisable_bank0 (s : State) : (s.dmaDisable).bank0 = s.bank0 := rfl
@[simp] theorem State.dmaDisable_bank1 (s : State) : (s.dmaDisable).bank1 = s.bank1 := rfl
@[simp] theorem State.dmaDisable_phase (s : State) : (s.dmaDisable).phase = s.phase := rfl
@[simp] theorem State.dmaDisable_xseq (s : State) : (s.dmaDisable).xseq = s.xseq := rfl
@[simp] theorem State.dmaDisable_pend (s : State) : (s.dmaDisable).pend = s.pend := rfl
@[simp] theorem State.dmaDisable_evtSet (s : State) : (s.dmaDisable).evtSet = s.evtSet := rfl
@[simp] theorem State.dmaDisable_evtst (s : State) : (s.dmaDisable).evtst = s.evtst := rfl
@[simp] theorem State.dmaDisable_ien (s : State) : (s.dmaDisable).ien = s.ien := rfl
@[simp] theorem State.dmaDisable_rawsta (s : State) : (s.dmaDisable).rawsta = s.rawsta := rfl
@[simp] theorem State.dmaDisable_hwresp0 (s : State) : (s.dmaDisable).hwresp0 = s.hwresp0 := rfl
@[simp] theorem State.dmaDisable_hwresp1 (s : State) : (s.dmaDisable).hwresp1 = s.hwresp1 := rfl
@[simp] theorem State.dmaDisable_hwresp2 (s : State) : (s.dmaDisable).hwresp2 = s.hwresp2 := rfl
@[simp] theorem State.dmaDisable_hwresp3 (s : State) : (s.dmaDisable).hwresp3 = s.hwresp3 := rfl
@[simp] theorem State.dmaDisable_cmdreg (s : State) : (s.dmaDisable).cmdreg = s.cmdreg := rfl
@[simp] theorem State.dmaDisable_cmdargreg (s : State) : (s.dmaDisable).cmdargreg = s.cmdargreg := rfl
@[simp] theorem State.dmaDisable_dlen (s : State) : (s.dmaDisable).dlen = s.dlen := rfl
@[simp] theorem State.dmaDisable_dblk (s : State) : (s.dmaDisable).dblk = s.dblk := rfl
@[simp] theorem State.dmaDisable_dctl (s : State) : (s.dmaDisable).dctl = s.dctl := rfl
@[simp] theorem State.dmaDisable_ctl (s : State) : (s.dmaDisable).ctl = s.ctl := rfl
@[simp] theorem State.dmaDisable_ovr (s : State) : (s.dmaDisable).ovr = s.ovr := rfl
@[simp] theorem State.dmaDisable_wcnt (s : State) : (s.dmaDisable).wcnt = s.wcnt := rfl
@[simp] theorem State.dmaDisable_spin (s : State) : (s.dmaDisable).spin = s.spin := rfl
@[simp] theorem State.dmaDisable_dmactl (s : State) : (s.dmaDisable).dmactl = { s.dmactl with en := false } := rfl
@[simp] theorem State.dmaDisable_dmalen (s : State) : (s.dmaDisable).dmalen = s.dmalen := rfl
@[simp] theorem State.dmaDisable_buscfg (s : State) : (s.dmaDisable).buscfg = s.buscfg := rfl
@[simp] theorem State.dmaDisable_st (s : State) : (s.dmaDisable).st = s.st := rfl
@[simp] theorem State.dmaDisable_drainfail (s : State) : (s.dmaDisable).drainfail = s.drainfail := rfl
@[simp] theorem State.dmaDisable_buf (s : State) : (s.dmaDisable).buf = s.buf := rfl
@[simp] theorem State.dmaDisable_hostmem (s : State) : (s.dmaDisable).hostmem = s.hostmem := rfl
@[simp] theorem State.dmaDisable_cardPresent (s : State) : (s.dmaDisable).cardPresent = s.cardPresent := rfl
@[simp] theorem State.dmaDisable_waiting (s : State) : (s.dmaDisable).waiting = s.waiting := rfl
@[simp] theorem State.dmaDisable_out (s : State) : (s.dmaDisable).out = s.out := rfl
@[simp] theorem State.dmaDisable_params (s : State) : (s.dmaDisable).params = s.params := rfl
@[simp] theorem State.dmaDisable_busApplied (s : State) : (s.dmaDisable).busApplied = s.busApplied := rfl
@[simp] theorem State.dmaDisable_script (s : State) : (s.dmaDisable).script = s.script := rfl
@[simp] theorem State.dmaDisable_duringCopy (s : State) : (s.dmaDisable).duringCopy = s.duringCopy := rfl
@[simp] theorem State.dmaDisable_freeCount (s : State) : (s.dmaDisable).freeCount = s.freeCount := rfl

/-! ## `signal` -/

@[simp] theorem State.signal_bank0 (s : State) (snap : Word) : (s.signal snap).bank0 = s.bank0 := rfl
@[simp] theorem State.signal_bank1 (s : State) (snap : Word) : (s.signal snap).bank1 = s.bank1 := rfl
@[simp] theorem State.signal_phase (s : State) (snap : Word) : (s.signal snap).phase = s.phase := rfl
@[simp] theorem State.signal_xseq (s : State) (snap : Word) : (s.signal snap).xseq = s.xseq := rfl
@[simp] theorem State.signal_pend (s : State) (snap : Word) : (s.signal snap).pend = { s.pend with valid := false } := rfl
@[simp] theorem State.signal_evtSet (s : State) (snap : Word) : (s.signal snap).evtSet = true := rfl
@[simp] theorem State.signal_evtst (s : State) (snap : Word) : (s.signal snap).evtst = snap := rfl
@[simp] theorem State.signal_ien (s : State) (snap : Word) : (s.signal snap).ien = s.ien := rfl
@[simp] theorem State.signal_rawsta (s : State) (snap : Word) : (s.signal snap).rawsta = s.rawsta := rfl
@[simp] theorem State.signal_hwresp0 (s : State) (snap : Word) : (s.signal snap).hwresp0 = s.hwresp0 := rfl
@[simp] theorem State.signal_hwresp1 (s : State) (snap : Word) : (s.signal snap).hwresp1 = s.hwresp1 := rfl
@[simp] theorem State.signal_hwresp2 (s : State) (snap : Word) : (s.signal snap).hwresp2 = s.hwresp2 := rfl
@[simp] theorem State.signal_hwresp3 (s : State) (snap : Word) : (s.signal snap).hwresp3 = s.hwresp3 := rfl
@[simp] theorem State.signal_cmdreg (s : State) (snap : Word) : (s.signal snap).cmdreg = s.cmdreg := rfl
@[simp] theorem State.signal_cmdargreg (s : State) (snap : Word) : (s.signal snap).cmdargreg = s.cmdargreg := rfl
@[simp] theorem State.signal_dlen (s : State) (snap : Word) : (s.signal snap).dlen = s.dlen := rfl
@[simp] theorem State.signal_dblk (s : State) (snap : Word) : (s.signal snap).dblk = s.dblk := rfl
@[simp] theorem State.signal_dctl (s : State) (snap : Word) : (s.signal snap).dctl = s.dctl := rfl
@[simp] theorem State.signal_ctl (s : State) (snap : Word) : (s.signal snap).ctl = s.ctl := rfl
@[simp] theorem State.signal_ovr (s : State) (snap : Word) : (s.signal snap).ovr = s.ovr := rfl
@[simp] theorem State.signal_wcnt (s : State) (snap : Word) : (s.signal snap).wcnt = s.wcnt := rfl
@[simp] theorem State.signal_spin (s : State) (snap : Word) : (s.signal snap).spin = s.spin := rfl
@[simp] theorem State.signal_dmactl (s : State) (snap : Word) : (s.signal snap).dmactl = s.dmactl := rfl
@[simp] theorem State.signal_dmalen (s : State) (snap : Word) : (s.signal snap).dmalen = s.dmalen := rfl
@[simp] theorem State.signal_buscfg (s : State) (snap : Word) : (s.signal snap).buscfg = s.buscfg := rfl
@[simp] theorem State.signal_st (s : State) (snap : Word) : (s.signal snap).st = s.st := rfl
@[simp] theorem State.signal_drainfail (s : State) (snap : Word) : (s.signal snap).drainfail = s.drainfail := rfl
@[simp] theorem State.signal_buf (s : State) (snap : Word) : (s.signal snap).buf = s.buf := rfl
@[simp] theorem State.signal_hostmem (s : State) (snap : Word) : (s.signal snap).hostmem = s.hostmem := rfl
@[simp] theorem State.signal_cardPresent (s : State) (snap : Word) : (s.signal snap).cardPresent = s.cardPresent := rfl
@[simp] theorem State.signal_waiting (s : State) (snap : Word) : (s.signal snap).waiting = s.waiting := rfl
@[simp] theorem State.signal_out (s : State) (snap : Word) : (s.signal snap).out = s.out := rfl
@[simp] theorem State.signal_params (s : State) (snap : Word) : (s.signal snap).params = s.params := rfl
@[simp] theorem State.signal_busApplied (s : State) (snap : Word) : (s.signal snap).busApplied = s.busApplied := rfl
@[simp] theorem State.signal_script (s : State) (snap : Word) : (s.signal snap).script = s.script := rfl
@[simp] theorem State.signal_duringCopy (s : State) (snap : Word) : (s.signal snap).duringCopy = s.duringCopy := rfl
@[simp] theorem State.signal_freeCount (s : State) (snap : Word) : (s.signal snap).freeCount = s.freeCount := rfl

/-! ## `appendTrailer` -/

@[simp] theorem State.appendTrailer_bank0 (s : State) (a n : Nat) : (s.appendTrailer a n).bank0 = s.bank0 := rfl
@[simp] theorem State.appendTrailer_bank1 (s : State) (a n : Nat) : (s.appendTrailer a n).bank1 = s.bank1 := rfl
@[simp] theorem State.appendTrailer_phase (s : State) (a n : Nat) : (s.appendTrailer a n).phase = s.phase := rfl
@[simp] theorem State.appendTrailer_xseq (s : State) (a n : Nat) : (s.appendTrailer a n).xseq = s.xseq := rfl
@[simp] theorem State.appendTrailer_pend (s : State) (a n : Nat) : (s.appendTrailer a n).pend = s.pend := rfl
@[simp] theorem State.appendTrailer_evtSet (s : State) (a n : Nat) : (s.appendTrailer a n).evtSet = s.evtSet := rfl
@[simp] theorem State.appendTrailer_evtst (s : State) (a n : Nat) : (s.appendTrailer a n).evtst = s.evtst := rfl
@[simp] theorem State.appendTrailer_ien (s : State) (a n : Nat) : (s.appendTrailer a n).ien = s.ien := rfl
@[simp] theorem State.appendTrailer_rawsta (s : State) (a n : Nat) : (s.appendTrailer a n).rawsta = s.rawsta := rfl
@[simp] theorem State.appendTrailer_hwresp0 (s : State) (a n : Nat) : (s.appendTrailer a n).hwresp0 = s.hwresp0 := rfl
@[simp] theorem State.appendTrailer_hwresp1 (s : State) (a n : Nat) : (s.appendTrailer a n).hwresp1 = s.hwresp1 := rfl
@[simp] theorem State.appendTrailer_hwresp2 (s : State) (a n : Nat) : (s.appendTrailer a n).hwresp2 = s.hwresp2 := rfl
@[simp] theorem State.appendTrailer_hwresp3 (s : State) (a n : Nat) : (s.appendTrailer a n).hwresp3 = s.hwresp3 := rfl
@[simp] theorem State.appendTrailer_cmdreg (s : State) (a n : Nat) : (s.appendTrailer a n).cmdreg = s.cmdreg := rfl
@[simp] theorem State.appendTrailer_cmdargreg (s : State) (a n : Nat) : (s.appendTrailer a n).cmdargreg = s.cmdargreg := rfl
@[simp] theorem State.appendTrailer_dlen (s : State) (a n : Nat) : (s.appendTrailer a n).dlen = s.dlen := rfl
@[simp] theorem State.appendTrailer_dblk (s : State) (a n : Nat) : (s.appendTrailer a n).dblk = s.dblk := rfl
@[simp] theorem State.appendTrailer_dctl (s : State) (a n : Nat) : (s.appendTrailer a n).dctl = s.dctl := rfl
@[simp] theorem State.appendTrailer_ctl (s : State) (a n : Nat) : (s.appendTrailer a n).ctl = s.ctl := rfl
@[simp] theorem State.appendTrailer_ovr (s : State) (a n : Nat) : (s.appendTrailer a n).ovr = s.ovr := rfl
@[simp] theorem State.appendTrailer_wcnt (s : State) (a n : Nat) : (s.appendTrailer a n).wcnt = s.wcnt := rfl
@[simp] theorem State.appendTrailer_spin (s : State) (a n : Nat) : (s.appendTrailer a n).spin = s.spin := rfl
@[simp] theorem State.appendTrailer_dmactl (s : State) (a n : Nat) : (s.appendTrailer a n).dmactl = s.dmactl := rfl
@[simp] theorem State.appendTrailer_dmalen (s : State) (a n : Nat) : (s.appendTrailer a n).dmalen = s.dmalen := rfl
@[simp] theorem State.appendTrailer_buscfg (s : State) (a n : Nat) : (s.appendTrailer a n).buscfg = s.buscfg := rfl
@[simp] theorem State.appendTrailer_st (s : State) (a n : Nat) : (s.appendTrailer a n).st = s.st := rfl
@[simp] theorem State.appendTrailer_drainfail (s : State) (a n : Nat) : (s.appendTrailer a n).drainfail = s.drainfail := rfl
@[simp] theorem State.appendTrailer_buf (s : State) (a n : Nat) : (s.appendTrailer a n).buf = s.writeBuf (s.duringCopy.drop n) (a + n) (s4Trailer (s.readBuf s.duringCopy a n s.buf).1) (s.readBuf s.duringCopy a n s.buf).2 := rfl
@[simp] theorem State.appendTrailer_hostmem (s : State) (a n : Nat) : (s.appendTrailer a n).hostmem = s.hostmem := rfl
@[simp] theorem State.appendTrailer_cardPresent (s : State) (a n : Nat) : (s.appendTrailer a n).cardPresent = s.cardPresent := rfl
@[simp] theorem State.appendTrailer_waiting (s : State) (a n : Nat) : (s.appendTrailer a n).waiting = s.waiting := rfl
@[simp] theorem State.appendTrailer_out (s : State) (a n : Nat) : (s.appendTrailer a n).out = s.out := rfl
@[simp] theorem State.appendTrailer_params (s : State) (a n : Nat) : (s.appendTrailer a n).params = s.params := rfl
@[simp] theorem State.appendTrailer_busApplied (s : State) (a n : Nat) : (s.appendTrailer a n).busApplied = s.busApplied := rfl
@[simp] theorem State.appendTrailer_script (s : State) (a n : Nat) : (s.appendTrailer a n).script = s.script := rfl
@[simp] theorem State.appendTrailer_duringCopy (s : State) (a n : Nat) : (s.appendTrailer a n).duringCopy = [] := rfl
@[simp] theorem State.appendTrailer_freeCount (s : State) (a n : Nat) : (s.appendTrailer a n).freeCount = s.freeCount := rfl

/-! ## `setBank` -/

@[simp] theorem State.setBank_bank0 (s : State) (c : Slot) (b : Bank) : (s.setBank c b).bank0 = (if c = .main then b else s.bank0) := by cases c <;> rfl
@[simp] theorem State.setBank_bank1 (s : State) (c : Slot) (b : Bank) : (s.setBank c b).bank1 = (if c = .stop then b else s.bank1) := by cases c <;> rfl
@[simp] theorem State.setBank_phase (s : State) (c : Slot) (b : Bank) : (s.setBank c b).phase = s.phase := by cases c <;> rfl
@[simp] theorem State.setBank_xseq (s : State) (c : Slot) (b : Bank) : (s.setBank c b).xseq = s.xseq := by cases c <;> rfl
@[simp] theorem State.setBank_pend (s : State) (c : Slot) (b : Bank) : (s.setBank c b).pend = s.pend := by cases c <;> rfl
@[simp] theorem State.setBank_evtSet (s : State) (c : Slot) (b : Bank) : (s.setBank c b).evtSet = s.evtSet := by cases c <;> rfl
@[simp] theorem State.setBank_evtst (s : State) (c : Slot) (b : Bank) : (s.setBank c b).evtst = s.evtst := by cases c <;> rfl
@[simp] theorem State.setBank_ien (s : State) (c : Slot) (b : Bank) : (s.setBank c b).ien = s.ien := by cases c <;> rfl
@[simp] theorem State.setBank_rawsta (s : State) (c : Slot) (b : Bank) : (s.setBank c b).rawsta = s.rawsta := by cases c <;> rfl
@[simp] theorem State.setBank_hwresp0 (s : State) (c : Slot) (b : Bank) : (s.setBank c b).hwresp0 = s.hwresp0 := by cases c <;> rfl
@[simp] theorem State.setBank_hwresp1 (s : State) (c : Slot) (b : Bank) : (s.setBank c b).hwresp1 = s.hwresp1 := by cases c <;> rfl
@[simp] theorem State.setBank_hwresp2 (s : State) (c : Slot) (b : Bank) : (s.setBank c b).hwresp2 = s.hwresp2 := by cases c <;> rfl
@[simp] theorem State.setBank_hwresp3 (s : State) (c : Slot) (b : Bank) : (s.setBank c b).hwresp3 = s.hwresp3 := by cases c <;> rfl
@[simp] theorem State.setBank_cmdreg (s : State) (c : Slot) (b : Bank) : (s.setBank c b).cmdreg = s.cmdreg := by cases c <;> rfl
@[simp] theorem State.setBank_cmdargreg (s : State) (c : Slot) (b : Bank) : (s.setBank c b).cmdargreg = s.cmdargreg := by cases c <;> rfl
@[simp] theorem State.setBank_dlen (s : State) (c : Slot) (b : Bank) : (s.setBank c b).dlen = s.dlen := by cases c <;> rfl
@[simp] theorem State.setBank_dblk (s : State) (c : Slot) (b : Bank) : (s.setBank c b).dblk = s.dblk := by cases c <;> rfl
@[simp] theorem State.setBank_dctl (s : State) (c : Slot) (b : Bank) : (s.setBank c b).dctl = s.dctl := by cases c <;> rfl
@[simp] theorem State.setBank_ctl (s : State) (c : Slot) (b : Bank) : (s.setBank c b).ctl = s.ctl := by cases c <;> rfl
@[simp] theorem State.setBank_ovr (s : State) (c : Slot) (b : Bank) : (s.setBank c b).ovr = s.ovr := by cases c <;> rfl
@[simp] theorem State.setBank_wcnt (s : State) (c : Slot) (b : Bank) : (s.setBank c b).wcnt = s.wcnt := by cases c <;> rfl
@[simp] theorem State.setBank_spin (s : State) (c : Slot) (b : Bank) : (s.setBank c b).spin = s.spin := by cases c <;> rfl
@[simp] theorem State.setBank_dmactl (s : State) (c : Slot) (b : Bank) : (s.setBank c b).dmactl = s.dmactl := by cases c <;> rfl
@[simp] theorem State.setBank_dmalen (s : State) (c : Slot) (b : Bank) : (s.setBank c b).dmalen = s.dmalen := by cases c <;> rfl
@[simp] theorem State.setBank_buscfg (s : State) (c : Slot) (b : Bank) : (s.setBank c b).buscfg = s.buscfg := by cases c <;> rfl
@[simp] theorem State.setBank_st (s : State) (c : Slot) (b : Bank) : (s.setBank c b).st = s.st := by cases c <;> rfl
@[simp] theorem State.setBank_drainfail (s : State) (c : Slot) (b : Bank) : (s.setBank c b).drainfail = s.drainfail := by cases c <;> rfl
@[simp] theorem State.setBank_buf (s : State) (c : Slot) (b : Bank) : (s.setBank c b).buf = s.buf := by cases c <;> rfl
@[simp] theorem State.setBank_hostmem (s : State) (c : Slot) (b : Bank) : (s.setBank c b).hostmem = s.hostmem := by cases c <;> rfl
@[simp] theorem State.setBank_cardPresent (s : State) (c : Slot) (b : Bank) : (s.setBank c b).cardPresent = s.cardPresent := by cases c <;> rfl
@[simp] theorem State.setBank_waiting (s : State) (c : Slot) (b : Bank) : (s.setBank c b).waiting = s.waiting := by cases c <;> rfl
@[simp] theorem State.setBank_out (s : State) (c : Slot) (b : Bank) : (s.setBank c b).out = s.out := by cases c <;> rfl
@[simp] theorem State.setBank_params (s : State) (c : Slot) (b : Bank) : (s.setBank c b).params = s.params := by cases c <;> rfl
@[simp] theorem State.setBank_busApplied (s : State) (c : Slot) (b : Bank) : (s.setBank c b).busApplied = s.busApplied := by cases c <;> rfl
@[simp] theorem State.setBank_script (s : State) (c : Slot) (b : Bank) : (s.setBank c b).script = s.script := by cases c <;> rfl
@[simp] theorem State.setBank_duringCopy (s : State) (c : Slot) (b : Bank) : (s.setBank c b).duringCopy = s.duringCopy := by cases c <;> rfl
@[simp] theorem State.setBank_freeCount (s : State) (c : Slot) (b : Bank) : (s.setBank c b).freeCount = s.freeCount := by cases c <;> rfl

theorem State.bank_setBank (s : State) (c d : Slot) (b : Bank) :
    (s.setBank c b).bank d = if d = c then b else s.bank d := by
  cases c <;> cases d <;> rfl

@[simp] theorem State.bank_setBank_self (s : State) (c : Slot) (b : Bank) : (s.setBank c b).bank c = b := by
  cases c <;> rfl

/-- Writing back the bank that is there changes nothing. -/
@[simp] theorem State.setBank_bank (s : State) (c : Slot) : s.setBank c (s.bank c) = s := by
  cases c <;> rfl

/-! ## The bank of a slot depends on the two banks alone -/

theorem State.bank_congr (s t : State) (c : Slot) (h0 : t.bank0 = s.bank0) (h1 : t.bank1 = s.bank1) :
    t.bank c = s.bank c := by
  cases c
  · exact h0
  · exact h1

theorem State.cs_congr (s t : State) (h : t.xseq = s.xseq) : t.cs = s.cs := by
  simp only [State.cs, h]

theorem State.insideSend_congr (s t : State) (h : t.xseq = s.xseq) : t.insideSend = s.insideSend := by
  simp only [State.insideSend, h]

/-! ## Compound updates -/

theorem State.deliver_eq (s : State) (c : PortCode) (v : BitVec 64) : s.deliver c v = s.emit (.result c v) := rfl

theorem State.refuseOperand_eq (s : State) : s.refuseOperand = s.emit (.result .illegalOperand 0#64) := rfl

theorem State.refuseOp_eq (s : State) : s.refuseOp = s.emit (.result .illegalOp 0#64) := rfl

/-- Everything a result on the port changes. -/
theorem State.deliver_record (s : State) (c : PortCode) (v : BitVec 64) :
    s.deliver c v = { s with out := .result c v :: s.out } := rfl

/-- Everything an acknowledge of the ISR changes (R176): the pending sources fall, and a card interrupt is reported. -/
theorem State.acknowledge_record (s : State) :
    s.acknowledge = { s with
      rawsta := s.rawsta &&& ~~~s.pendingSources,
      out := if s.pendingSources.getLsbD bCardIrq then .cardIrq :: s.out else s.out } := by
  unfold State.acknowledge State.emit
  cases h : s.pendingSources.getLsbD bCardIrq <;> simp [h]

/-- Everything an error raised into a slot changes (R170). -/
theorem State.raiseCmd_err (s : State) (c : Slot) (e : ErrCode) :
    ((s.raiseCmd c e).bank c).err = { (s.bank c).err with cmdErr := e } := by
  simp [State.raiseCmd]

end Sys2Proof.Machine
end

