-- ==== Sys2Proof/Laws/Steps.lean ====
section
/-! SUPPORT. What each shared step can do, said once: the ISR, the DMA agent, the copies of EXEC, `apply`, the wait and the
drain of SEND, the port, and one step of the machine. A proof cites these instead of unfolding a step. -/

namespace Sys2Proof.Machine

open Sys2Proof

/-! ## The ISR (R175, R176) -/

/-- Where `irq` does not hold the ISR changes nothing. -/
theorem isrStep_quiet {s : State} (h : s.irq = false) : isrStep s = s := by
  simp [isrStep, h]

/-- Everything an ISR step can do. -/
theorem isrStep_cases (s : State) :
    isrStep s = s ∧ s.irq = false ∨
    isrStep s = s.acknowledge ∧ s.irq = true ∧
      (s.pend.valid = false ∨ irqCompletes s.pendingSources (s.bank s.pend.slot).hasData = false) ∨
    isrStep s = s.acknowledge.signal s.rawsta ∧ s.irq = true ∧ s.pend.valid = true ∧
      irqCompletes s.pendingSources (s.bank s.pend.slot).hasData = true := by
  unfold isrStep
  cases hi : s.irq
  · simp
  · cases hp : s.pend.valid <;> cases hc : irqCompletes s.pendingSources (s.bank s.pend.slot).hasData <;> simp

/-! ## The DMA agent (R153) -/

/-- Everything a DMA step can do. -/
theorem dmaStep_cases (i : Nat) (v : Byte) (s : State) :
    dmaStep i v s = .next s ∨
    (dmaStep i v s = .next { s with buf := Mem.write s.buf i v } ∧ s.dmaEnabled i = true ∧ s.inBuf i 1 = true ∧
      s.dmactl.dir = .fromCard) ∨
    (dmaStep i v s = .fault .bufOutOfRange ∧ s.dmaEnabled i = true ∧ s.inBuf i 1 = false) := by
  unfold dmaStep
  cases he : s.dmaEnabled i
  · simp
  · cases hb : s.inBuf i 1
    · simp
    · cases hd : s.dmactl.dir <;> simp

/-! ## The copies of EXEC (R131, R133) -/

/-- Everything the copy-in can do. -/
theorem copyIn_cases (s : State) :
    copyIn s = .next s ∨
    copyIn s = .next { s with
        buf := s.writeBuf s.duringCopy 0 (Mem.readBytes s.hostmem s.bank0.buf.toNat s.bank0.len) s.buf,
        duringCopy := [] } ∧
      s.inBuf 0 s.bank0.len = true ∨
    copyIn s = .fault .hostMemOutOfRange ∨ copyIn s = .fault .bufOutOfRange := by
  unfold copyIn
  cases s.bank0.valid && s.copies .toCard
  · simp
  · cases inHostMem s.bank0.buf.toNat s.bank0.len
    · simp
    · cases s.inBuf 0 s.bank0.len <;> simp

/-- Everything the copy-out can do. -/
theorem copyOut_cases (s : State) :
    copyOut s = .next s ∨
    copyOut s = .next { s with
        hostmem := Mem.writeBytes s.hostmem s.bank0.buf.toNat (s.readBuf s.duringCopy 0 s.bank0.len s.buf).1,
        buf := (s.readBuf s.duringCopy 0 s.bank0.len s.buf).2,
        duringCopy := [] } ∧
      inHostMem s.bank0.buf.toNat s.bank0.len = true ∨
    copyOut s = .fault .hostMemOutOfRange ∨ copyOut s = .fault .bufOutOfRange := by
  unfold copyOut
  cases s.copies .fromCard
  · simp
  · cases inHostMem s.bank0.buf.toNat s.bank0.len
    · simp
    · cases s.inBuf 0 s.bank0.len <;> simp

/-! ## `apply` (R160 to R166) -/

/-- `apply` changes `BUSCFG` and the record that it ran, and nothing else. -/
theorem applyStep_cases (c : BusConfig) (s : State) :
    applyStep c s = s ∨
    ∃ w, widthCode c.lines = some w ∧ s.ctl.busy = false ∧ Config.minSrcClock ≤ c.source ∧
      applyStep c s = { s with
        buscfg := ({ s.buscfg with
          clkdiv := newClkdiv s.buscfg.clkdiv c.source c.target, width := w } : BusCfg).setPower c.power,
        busApplied := true } := by
  unfold applyStep
  cases hb : s.ctl.busy
  · by_cases hs : c.source < Config.minSrcClock
    · simp [hs]
    · cases hw : widthCode c.lines with
      | none => simp [hs]
      | some w => exact Or.inr ⟨w, rfl, rfl, Nat.le_of_not_lt hs, by simp [hs]⟩
  · simp

/-! ## The wait and the drain of SEND (R118, R121) -/

/-- Everything S7 can do. -/
theorem stepWait_cases (s : State) :
    (s.evtSet = true ∧ stepWait s = { s with st := s.evtst, evtSet := false, phase := .classify }) ∨
    (s.evtSet = false ∧ Config.evtTimeout ≤ s.wcnt.toNat ∧
      stepWait s = (s.raiseCmd s.cs .commandTimeout).setPhase .cleanup) ∨
    (s.evtSet = false ∧ s.wcnt.toNat < Config.evtTimeout ∧ stepWait s = s) := by
  unfold stepWait
  cases he : s.evtSet
  · by_cases hw : Config.evtTimeout ≤ s.wcnt.toNat
    · exact Or.inr (Or.inl ⟨rfl, hw, by simp [hw]⟩)
    · exact Or.inr (Or.inr ⟨rfl, Nat.lt_of_not_le hw, by simp [hw]⟩)
  · exact Or.inl ⟨rfl, by simp [State.setPhase]⟩

/-- Everything S9 can do. -/
theorem stepDrain_cases (s : State) :
    (s.rawsta &&& runMask = 0#32 ∧
      stepDrain s = { s with drainfail := s.rawsta &&& errMask != 0#32, phase := .drainExit }) ∨
    (s.rawsta &&& runMask ≠ 0#32 ∧ s.spin = 0#32 ∧ stepDrain s = { s with drainfail := true, phase := .drainExit }) ∨
    (s.rawsta &&& runMask ≠ 0#32 ∧ s.spin ≠ 0#32 ∧ stepDrain s = { s with spin := s.spin - 1#32 }) := by
  unfold stepDrain
  by_cases hr : s.rawsta &&& runMask = 0#32
  · exact Or.inl ⟨hr, by simp [hr, State.setPhase]⟩
  · by_cases hs : s.spin = 0#32
    · exact Or.inr (Or.inl ⟨hr, hs, by simp [hr, hs, State.setPhase]⟩)
    · exact Or.inr (Or.inr ⟨hr, hs, by simp [hr, hs]⟩)

/-! ## The choice of ENGINE's step (R136) -/

/-- Where ENGINE has no enabled step it changes nothing (log entry 6). -/
theorem engineStep_of_not_enabled {s : State} (h : s.engineEnabled = false) : engineStep s = .next s := by
  unfold State.engineEnabled at h
  unfold engineStep
  cases hp : s.phase <;> simp_all
  · cases hg : s.xseq.stage <;> simp_all [stageStep]
  · have hw : ¬Config.evtTimeout ≤ s.wcnt.toNat := fun hle => by simp [Nat.ble_eq.mpr hle] at h
    simp [stepWait, h, hw]

/-! ## The end of SEND (R123) -/

/-- What S11 does with the control state, by who runs the SEND. -/
theorem stepCleanup_cases (s : State) :
    (s.xseq.direct = true ∧ (stepCleanup s).xseq = { s.xseq with direct := false } ∧
      (stepCleanup s).ctl = { s.ctl with busy := false } ∧
      (stepCleanup s).out = .result .ok (s.cur.err.word.setWidth 64) :: s.out) ∨
    (s.xseq.direct = false ∧ s.xseq.stage = .main ∧ (stepCleanup s).xseq = { s.xseq with stage := .copyOut } ∧
      (stepCleanup s).ctl = s.ctl ∧ (stepCleanup s).out = s.out) ∨
    (s.xseq.direct = false ∧ s.xseq.stage ≠ .main ∧ (stepCleanup s).xseq = { s.xseq with stage := .release } ∧
      (stepCleanup s).ctl = s.ctl ∧ (stepCleanup s).out = s.out) := by
  unfold stepCleanup
  cases hd : s.xseq.direct
  · by_cases hm : s.xseq.stage = .main
    · exact Or.inr (Or.inl ⟨rfl, hm, by simp [hm, State.setStage, State.clearPend, State.setPhase, State.setIen]⟩)
    · exact Or.inr (Or.inr ⟨rfl, hm, by simp [hm, State.setStage, State.clearPend, State.setPhase, State.setIen]⟩)
  · exact Or.inl ⟨rfl, by simp [State.setBusy, State.deliver, State.emit, State.clearPend, State.setPhase, State.setIen]⟩

/-! ## The port (R50, R67) -/

/-- A word that spells an operation is performed. -/
theorem acceptWord_ok {w : OpWord} {i : Instr} (h : decode w = .ok i) (s : State) : acceptWord w s = exec i s := by
  simp [acceptWord, h]

/-- A word that spells no operation is refused, with no other effect. -/
theorem acceptWord_error {w : OpWord} {e : DecodeError} (h : decode w = .error e) (s : State) :
    acceptWord w s = .next s.refuseOp := by
  simp [acceptWord, h]

/-- What a word meets at the port. -/
theorem presentWord_cases (w : OpWord) (s : State) :
    (s.ctl.busy = true ∧ presentWord w s = .next { s with waiting := s.waiting ++ [w] }) ∨
    (s.ctl.busy = false ∧ presentWord w s = acceptWord w s) := by
  unfold presentWord
  cases s.ctl.busy <;> simp

/-! ## One step of the machine -/

/-- A step with a script is the step of the agent that stands first in it. -/
theorem step_script {s : State} {e : AgentStep} {rest : List AgentStep} (h : s.script = e :: rest) :
    step s = agentStep e { s with script := rest } := by
  simp [step, takeChoice, h]

/-- A step without a script takes its agent from the free value. -/
theorem step_free {s : State} (h : s.script = []) :
    step s = agentStep (Config.freeAgent s.freeCount) { s with freeCount := s.freeCount + 1 } := by
  simp [step, takeChoice, h]

end Sys2Proof.Machine
end

