-- ==== Sys2Proof/WellFormed.lean ====
section
/-! DEFINITION. The operand checks of `30_encoding.md` R69 (b) that look at the operation word alone. An instruction
that fails one is still decoded and still runs: the port answers it with `IllegalOperand` and changes nothing. The checks
that need the state (the capacity of `BUF`, `VALID` of a bank) stand in the meanings. -/

namespace Sys2Proof

/-- The bit count of a CRC step is at most 8 (R69 (b), R82, R83). -/
def nbitsOk (nbits : BitVec 4) : Bool := nbits.toNat ≤ Config.stepMaxBits

/-- The register number is defined (R37, R100). -/
def readOk (reg : BitVec 8) : Bool := (regOfNum reg).isSome

/-- The register number is defined, the register is writable, and the value writes no reserved bit (R101). -/
def writeOk (reg : BitVec 8) (value : Word) : Bool :=
  match regOfNum reg with
  | none => false
  | some r => hostAccess r != .ro && value &&& reservedMask r == 0#32

/-- No operand check of R69 (b) that reads only the word refuses the instruction. -/
def Instr.wellFormed : Instr → Bool
  | .crc7 nbits _ _  => nbitsOk nbits
  | .crc16 nbits _ _ => nbitsOk nbits
  | .crc16s4 _ _     => true
  | .rdreg reg       => readOk reg
  | .wrreg reg value => writeOk reg value
  | .irqen _         => true
  | .detect          => true
  | .send _          => true
  | .exec            => true
  | .recover         => true

end Sys2Proof
end

