-- ==== Sys2Proof/Laws/WellFormed.lean ====
section
/-! SUPPORT. The checks of WellFormed are checks the port makes: an ill-formed instruction is answered `IllegalOperand` and
changes nothing, in every state (R69 (b)). -/

namespace Sys2Proof.Machine

open Sys2Proof

theorem exec_of_ill_formed (i : Instr) (s : State) (h : i.wellFormed = false) : exec i s = .next s.refuseOperand := by
  cases i with
  | crc7 nbits data crc => simp_all [Instr.wellFormed, nbitsOk, exec, execCrc7]
  | crc16 nbits data crc => simp_all [Instr.wellFormed, nbitsOk, exec, execCrc16]
  | rdreg reg =>
    cases hr : regOfNum reg <;> simp_all [Instr.wellFormed, readOk, exec, execRdreg]
  | wrreg reg value =>
    cases hr : regOfNum reg with
    | none => simp [exec, execWrreg, hr]
    | some r =>
      by_cases ha : hostAccess r = .ro
      · simp [exec, execWrreg, hr, ha]
      · simp_all [Instr.wellFormed, writeOk, exec, execWrreg]
  | crc16s4 _ _ | irqen _ | detect | send _ | exec | recover => simp [Instr.wellFormed] at h

end Sys2Proof.Machine
end

