-- ==== Sys2Proof/Tests/Slice0.lean ====
section
/-! SUPPORT. Tests of one step each, with the expected values of `95_test_vectors.md` or worked out by hand from the rules, and
one witness for the hypotheses of each statement that has some. -/

namespace Sys2Proof.Tests

open Sys2Proof Sys2Proof.Machine

/-! ## Small states -/

/-- A chip with `BOUNCE_CAP = 1024` and `DRAIN_SPIN_MAX = 1000`. -/
def testParams : Params := ⟨504, 999, 0, 0⟩

/-- The reset state of that chip. -/
def idle : State := { State.reset with params := testParams }

/-- A direct SEND of slot 0 in progress, with the given `CMD0_CTL`, about to take the given micro-step. -/
def sending (ctl : Word) (p : Phase) : State :=
  { idle with bank0 := { Bank.reset with ctl := ctl }, phase := p, xseq := ⟨.none, true, .main⟩, ctl := ⟨true, true⟩ }

/-- An EXEC in progress in the given stage, with the given `CMD0_CTL` and a block of `n` bytes at `CMD0_BUF = 0x100`. -/
def executing (ctl : Word) (n : Nat) (g : Stage) : State :=
  { idle with bank0 := { Bank.reset with ctl := ctl, blk := BitVec.ofNat 32 (0x10000 + n), buf := 0x100#32 },
              xseq := ⟨g, false, .main⟩, ctl := ⟨true, true⟩ }

/-- The last thing the block put out. -/
def last : Answer → Option Output
  | .next s => s.out.head?
  | _ => none

/-- The state a step leaves. -/
def after (a : Answer) (d : State) : State :=
  match a with
  | .next s => s
  | _ => d

/-- Whether a step answers a next state. -/
def goesOn : Answer → Bool
  | .next _ => true
  | _ => false

/-- Whether a word spells no operation, for this reason. -/
def rejects (w : OpWord) (e : DecodeError) : Bool :=
  match decode w with
  | .error d => d == e
  | .ok _ => false

/-! ## Decoding, from the formats R61 to R65 -/

theorem test_decode_crc7 : decodeTableWord 64 0x0100000008400064 = some (.crc7 8#4 0x40#8 0x64#7) := by decide
theorem test_decode_crc16 : decodeTableWord 64 0x0200000004F01234 = some (.crc16 4#4 0xF0#8 0x1234#16) := by decide
theorem test_decode_crc16s4 : decodeTableWord 64 0x0300020000000010 = some (.crc16s4 512#16 0x10#32) := by decide
theorem test_decode_rdreg : decodeTableWord 64 0x1000002F00000000 = some (.rdreg 0x2F#8) := by decide
theorem test_decode_wrreg : decodeTableWord 64 0x1100001312345678 = some (.wrreg 0x13#8 0x12345678#32) := by decide
theorem test_decode_irqen : decodeTableWord 64 0x1200000000000001 = some (.irqen true) := by decide
theorem test_decode_detect : decodeTableWord 64 0x1300000000000000 = some .detect := by decide
theorem test_decode_send : decodeTableWord 64 0x2000000000000001 = some (.send .stop) := by decide
theorem test_decode_exec : decodeTableWord 64 0x2100000000000000 = some .exec := by decide
theorem test_decode_recover : decodeTableWord 64 0x2200000000000000 = some .recover := by decide

/-- V1.15, V2.11, V4.1 to V4.8 and the non-zero `zero` field of CRC16S4. -/
theorem test_illegal_words :
    rejects 0x0100000008400080#64 .nonZeroField ∧ rejects 0x0200000108000000#64 .nonZeroField ∧
    rejects 0x0000000000000000#64 .undefinedOp ∧ rejects 0xFFFFFFFFFFFFFFFF#64 .undefinedOp ∧
    rejects 0x0400000000000000#64 .undefinedOp ∧ rejects 0x2000000000000002#64 .nonZeroField ∧
    rejects 0x2100000000000001#64 .nonZeroField ∧ rejects 0x1300000000000001#64 .nonZeroField ∧
    rejects 0x1000002F00000001#64 .nonZeroField ∧ rejects 0x1001002F00000000#64 .nonZeroField ∧
    rejects 0x0301000400000000#64 .nonZeroField := by decide

/-- R65: no two rows overlap. -/
theorem test_rows_disjoint :
    rows.Pairwise (fun r q => r.pattern &&& (r.mask &&& q.mask) ≠ q.pattern &&& (r.mask &&& q.mask)) := by decide

/-- R72: lines of the notation, one with a register name. -/
theorem test_asm :
    (AsmLine.mk "crc7" [.num 0x64, .num 0x40, .num 8]).instr = some (.crc7 8#4 0x40#8 0x64#7) ∧
    (AsmLine.mk "wrreg" [.name "CMD1_BUF", .num 7]).instr = some (.wrreg 0x13#8 7#32) ∧
    (AsmLine.mk "crc16s4" [.num 0x10, .num 64]).instr = some (.crc16s4 64#16 0x10#32) ∧
    (AsmLine.mk "send" [.num 2]).instr = none := by decide

set_option maxRecDepth 8000 in
/-- R35, R37: the number of every register, and no register for an undefined number. -/
theorem test_register_numbers :
    (List.range 256).all (fun n =>
      match regOfNum (BitVec.ofNat 8 n) with
      | some r => numOfReg r == BitVec.ofNat 8 n
      | none => (9 ≤ n && n ≤ 15) || (0x19 ≤ n && n ≤ 0x1F) || (0x34 ≤ n && n ≤ 0x37) || 0x3B ≤ n) = true := by decide

/-! ## The checks of WellFormed refuse ill-formed terms -/

theorem test_wf_crc7 : (Instr.crc7 9#4 0xFF#8 0#7).wellFormed = false := by decide
theorem test_wf_crc16 : (Instr.crc16 10#4 0#8 0#16).wellFormed = false := by decide
theorem test_wf_rdreg : (Instr.rdreg 0x09#8).wellFormed = false := by decide
theorem test_wf_wrreg_undefined : (Instr.wrreg 0x3B#8 0#32).wellFormed = false := by decide
theorem test_wf_wrreg_read_only : (Instr.wrreg 0x04#8 0#32).wellFormed = false := by decide
theorem test_wf_wrreg_reserved : (Instr.wrreg 0x00#8 0x40#32).wellFormed = false := by decide

/-! ## The operations -/

/-- V1.1. -/
theorem test_crc7_byte : last (exec (.crc7 8#4 0x40#8 0#7) idle) = some (.result .ok 0x64#64) := by decide
/-- V1.13: only the two top bits are consumed. -/
theorem test_crc7_partial : last (exec (.crc7 2#4 0xBF#8 0#7) idle) = some (.result .ok 0x12#64) := by decide
/-- V2.9. -/
theorem test_crc16_byte : last (exec (.crc16 8#4 0x31#8 0#16) idle) = some (.result .ok 0x2672#64) := by decide
/-- V2.7. -/
theorem test_crc16_partial : last (exec (.crc16 4#4 0xF0#8 0#16) idle) = some (.result .ok 0xF1EF#64) := by decide
set_option maxRecDepth 8000 in
/-- V3.7: `12 34 56 78` gives `44 4D 23 44 56 F4 44 4C`. -/
theorem test_crc16s4_trailer :
    Mem.readBytes (after (exec (.crc16s4 4#16 0#32)
      { idle with buf := Mem.writeBytes [] 0 [0x12#8, 0x34#8, 0x56#8, 0x78#8] }) idle).buf 4 8 =
      [0x44#8, 0x4D#8, 0x23#8, 0x44#8, 0x56#8, 0xF4#8, 0x44#8, 0x4C#8] := by decide
/-- The bounds test of section 2.3: `crc16s4 1017, 0` is refused, `crc16s4 1017, 513` is a no-op with `OVR`. -/
theorem test_crc16s4_bounds :
    last (exec (.crc16s4 0#16 1017#32) idle) = some (.result .illegalOperand 0#64) ∧
    (after (exec (.crc16s4 513#16 1017#32) idle) idle).ovr = true := by decide
/-- V5.1. -/
theorem test_rdreg_ctl : last (exec (.rdreg 0x2F#8) idle) = some (.result .ok 1#64) := by decide
/-- `CMDREG` after S6 for `OPC = 17`, kind `Short`: `START`, `RSPSEL = 1`, `IDX = 17`. -/
theorem test_rdreg_cmdreg :
    last (exec (.rdreg 0x2A#8) (stepCmdStart (sending 0x1103#32 .cmdStart))) = some (.result .ok 0x151#64) := by decide
/-- V5.5. -/
theorem test_wrreg_ctl : (after (exec (.wrreg 0x00#8 0x1103#32) idle) idle).bank0.ctl = 0x1103#32 := by decide
/-- V5.13 and V5.14. -/
theorem test_wrreg_codecst :
    (after (exec (.wrreg 0x30#8 0#32) { idle with ovr := true }) idle).ovr = true ∧
    (after (exec (.wrreg 0x30#8 1#32) { idle with ovr := true }) idle).ovr = false := by decide
/-- V5.7, V5.9. -/
theorem test_irqen :
    (after (exec (.irqen true) idle) idle).ien = 0x200#32 ∧
    (after (exec (.irqen false) { idle with ien := 0x270#32 }) idle).ien = 0x070#32 := by decide
/-- V5.10. -/
theorem test_detect : last (exec .detect { idle with cardPresent := true }) = some (.result .ok 1#64) := by decide
/-- R111: a slot that is not valid is refused. -/
theorem test_send_invalid : last (exec (.send .stop) idle) = some (.result .illegalOperand 0#64) := by decide
/-- R111: a valid slot starts at S1. -/
theorem test_send_accepted :
    (after (exec (.send .main) { idle with bank0 := { Bank.reset with ctl := 0x1103#32 } }) idle).phase = .evtReset := by
  decide
/-- R130: a request with neither command is invalid; the pulse comes with the result 6. -/
theorem test_exec_empty :
    (after (exec .exec idle) idle).out = [.result .ok 6#64, .reqDone] ∧
    (after (exec .exec idle) idle).ctl.busy = false := by decide
/-- R130: a stop command alone is a valid request. -/
theorem test_exec_stop_only :
    (after (exec .exec { idle with bank1 := { Bank.reset with ctl := 0x0C03#32 } }) idle).xseq.stage = .copyIn := by
  decide
/-- R140: `CTL` goes 0x1, 0x3, 0x2. -/
theorem test_recover :
    (after (exec .recover idle) idle).ctl.word = 3#2 ∧
    (stepRecovOff (after (exec .recover idle) idle)).ctl.word = 2#2 := by decide
/-- R142: `CTL` is 0x1 again and the result is `(OK, 0)`. -/
theorem test_recover_done :
    (stepRecovOn { idle with ctl := ⟨false, true⟩, phase := .recovOn }).ctl.word = 1#2 := by decide

/-- R170 and R66: the numbers of the codes. -/
theorem test_codes :
    [ErrCode.success, .commandCrcError, .commandTimeout, .dataCrcError, .dataTimeout, .busy, .invalidArgument].map
      ErrCode.num = [0#8, 1#8, 2#8, 3#8, 4#8, 5#8, 6#8] ∧
    [PortCode.ok, .illegalOp, .illegalOperand].map PortCode.num = [0#8, 1#8, 2#8] := by decide

/-- R177 (c): the response flag of a command with data is acknowledged and does not complete it. -/
theorem test_isr_response_with_data :
    (isrStep { sending 0x110B#32 .wait with pend := ⟨true, .main⟩, ien := 0x7F#32, rawsta := 0x10#32 }).evtSet = false ∧
    (isrStep { sending 0x110B#32 .wait with pend := ⟨true, .main⟩, ien := 0x7F#32, rawsta := 0x10#32 }).rawsta = 0#32 := by
  decide

/-- R162: 48 MHz to 400 kHz, 25 MHz, 100 kHz. -/
theorem test_divider :
    newClkdiv 7#8 48000000 400000 = 118#8 ∧ newClkdiv 7#8 48000000 25000000 = 0#8 ∧
    newClkdiv 7#8 48000000 100000 = 255#8 ∧ newClkdiv 7#8 48000000 0 = 7#8 := by decide

set_option maxRecDepth 8000 in
/-- The first step after reset runs the word placed there, for every row of the table. -/
theorem test_first_word_runs :
    goesOn (step (State.reset.withFetchWord 64 0x0100000000000000)) = true ∧
    goesOn (step (State.reset.withFetchWord 64 0x0200000000000000)) = true ∧
    goesOn (step (State.reset.withFetchWord 64 0x0300000000000000)) = true ∧
    goesOn (step (State.reset.withFetchWord 64 0x1000000000000000)) = true ∧
    goesOn (step (State.reset.withFetchWord 64 0x1100000000000000)) = true ∧
    goesOn (step (State.reset.withFetchWord 64 0x1200000000000000)) = true ∧
    goesOn (step (State.reset.withFetchWord 64 0x1300000000000000)) = true ∧
    goesOn (step (State.reset.withFetchWord 64 0x2000000000000000)) = true ∧
    goesOn (step (State.reset.withFetchWord 64 0x2100000000000000)) = true ∧
    goesOn (step (State.reset.withFetchWord 64 0x2200000000000000)) = true := by
  exact ⟨rfl, rfl, rfl, rfl, rfl, rfl, rfl, rfl, rfl, rfl⟩

/-! ## Witnesses: for each statement with hypotheses, a state and operands that meet them

Where the hypotheses of several clauses differ, one theorem holds a witness for each, at a boundary of its range. -/

theorem witness_EncodeOfDecode : decode 0x1100001312345678#64 = .ok (.wrreg 0x13#8 0x12345678#32) := by decide

theorem witness_IllegalWords : ¬spellsOperation 0x0100000008400080#64 ∧ spellsOperation 0x010000000840007F#64 := by
  unfold spellsOperation; decide

theorem witness_StepRunsTheWord :
    ({ idle with script := [.host 0x1300000000000000#64] }).script = [.host 0x1300000000000000#64] ∧
    idle.ctl.busy = false ∧ (sending 0x1103#32 .wait).ctl.busy = true ∧
    decode 0x1300000000000000#64 = .ok .detect ∧ decode 0x1300000000000001#64 = .error .nonZeroField ∧
    ({ idle with script := [.accept 0] }).script = [.accept 0] ∧
    ({ idle with waiting := [0x1300000000000000#64] }).waiting[0]? = some 0x1300000000000000#64 ∧
    ({ idle with waiting := [0x1300000000000001#64] }).waiting[0]? = some 0x1300000000000001#64 := by
  refine ⟨rfl, rfl, rfl, by decide, by decide, rfl, rfl, rfl⟩

/-- R67: a held word that spells no operation is answered `IllegalOp` when the port takes it, and is no longer held. -/
theorem test_held_illegal_word :
    last (agentStep (.accept 0) { idle with waiting := [0x1300000000000001#64] }) = some (.result .illegalOp 0#64) ∧
    (after (agentStep (.accept 0) { idle with waiting := [0x1300000000000001#64] }) idle).waiting = [] := by decide

/-- Both clauses: a busy state, and the three outcomes of an accepted word in a free one. -/
theorem witness_PortMutex :
    (sending 0x1103#32 .wait).ctl.busy = true ∧ idle.ctl.busy = false ∧
    goesOn (exec .recover idle) = true ∧ (after (exec .recover idle) idle).ctl.busy = true ∧
    goesOn (exec .exec idle) = true ∧ (after (exec .exec idle) idle).ctl.busy = false := by decide

/-- The refused and the admitted side of each check, at its boundary. -/
theorem witness_OperandRefusals :
    refusedByValue idle (.crc7 9#4 0#8 0#7) ∧ ¬refusedByValue idle (.crc7 8#4 0#8 0#7) ∧
    refusedByValue idle (.crc16 9#4 0#8 0#16) ∧ ¬refusedByValue idle (.crc16 8#4 0#8 0#16) ∧
    refusedByValue idle (.crc16s4 512#16 505#32) ∧ ¬refusedByValue idle (.crc16s4 512#16 504#32) ∧
    ¬refusedByValue idle (.crc16s4 513#16 505#32) ∧
    refusedByValue idle (.rdreg 0x3B#8) ∧ ¬refusedByValue idle (.rdreg 0x3A#8) ∧
    refusedByValue idle (.wrreg 0x04#8 0#32) ∧ ¬refusedByValue idle (.wrreg 0x03#8 0#32) ∧
    refusedByValue idle (.wrreg 0x10#8 0x4000#32) ∧ ¬refusedByValue idle (.wrreg 0x10#8 0x3F3F#32) ∧
    refusedByValue idle (.wrreg 0x30#8 2#32) ∧ ¬refusedByValue idle (.wrreg 0x30#8 1#32) ∧
    refusedByValue idle (.send .main) := by
  simp only [refusedByValue, undefinedNumber, descriptorNumber]
  and_intros <;> decide

theorem witness_SendRefusal :
    refusedByValue { idle with bank0 := { Bank.reset with ctl := 0x1119#32, blk := 0x10401#32 } } (.send .main) ∧
    ¬refusedByValue { idle with bank0 := { Bank.reset with ctl := 0x1119#32, blk := 0x10400#32 } } (.send .main) := by
  simp only [refusedByValue]; decide

/-- A sequence of bit-serial steps as `Crc7Result` asks for one. -/
def crc7Sequence (data : Byte) (crc : BitVec 7) : Nat → BitVec 7
  | 0 => crc
  | i + 1 => if (crc7Sequence data crc i).getLsbD 6 ≠ data.getLsbD (7 - i)
      then (crc7Sequence data crc i <<< 1) ^^^ 0x09#7 else crc7Sequence data crc i <<< 1

/-- The same for 16 bits. -/
def crc16Sequence (data : Byte) (crc : BitVec 16) : Nat → BitVec 16
  | 0 => crc
  | i + 1 => if (crc16Sequence data crc i).getLsbD 15 ≠ data.getLsbD (7 - i)
      then (crc16Sequence data crc i <<< 1) ^^^ 0x1021#16 else crc16Sequence data crc i <<< 1

theorem witness_Crc7Result :
    (8#4).toNat ≤ 8 ∧ crc7Sequence 0x40#8 0x64#7 0 = 0x64#7 ∧
    ∀ i, i < (8#4).toNat → crc7Sequence 0x40#8 0x64#7 (i + 1) =
      if (crc7Sequence 0x40#8 0x64#7 i).getLsbD 6 ≠ (0x40#8).getLsbD (7 - i)
      then (crc7Sequence 0x40#8 0x64#7 i <<< 1) ^^^ 0x09#7 else crc7Sequence 0x40#8 0x64#7 i <<< 1 := by
  exact ⟨by decide, rfl, fun _ _ => rfl⟩

theorem witness_Crc16Result :
    (8#4).toNat ≤ 8 ∧ crc16Sequence 0x31#8 0#16 0 = 0#16 ∧
    ∀ i, i < (8#4).toNat → crc16Sequence 0x31#8 0#16 (i + 1) =
      if (crc16Sequence 0x31#8 0#16 i).getLsbD 15 ≠ (0x31#8).getLsbD (7 - i)
      then (crc16Sequence 0x31#8 0#16 i <<< 1) ^^^ 0x1021#16 else crc16Sequence 0x31#8 0#16 i <<< 1 := by
  exact ⟨by decide, rfl, fun _ _ => rfl⟩

/-- Bounds of `CrcLaws`, `LaneCrcs`, `TrailerLayout` and `TrailerResidue`. -/
theorem witness_CrcLaws_LaneCrcs_Trailer : 3 + 5 ≤ 8 ∧ 0 < [0xA5#8].length ∧ (3 < 4 ∧ 7 < 8) := by decide

theorem witness_Crc16s4Appends :
    (512#16).toNat ≤ 512 ∧ (504#32).toNat + (512#16).toNat + 8 ≤ idle.params.bounceCap := by decide

theorem witness_Crc16s4OverCeiling : 512 < (513#16).toNat := by decide

theorem witness_RegisterReads : (0x2F#8, 1) ∈ [(0x2F#8, idle.ctl.ctlen.toNat + 2 * idle.ctl.busy.toNat)] := by decide

theorem witness_UndefinedRegisterNumbers :
    undefinedNumber 0x09#8 ∧ undefinedNumber 0x0F#8 ∧ undefinedNumber 0x19#8 ∧ undefinedNumber 0x1F#8 ∧
    undefinedNumber 0x34#8 ∧ undefinedNumber 0x37#8 ∧ undefinedNumber 0x3B#8 ∧ undefinedNumber 0xFF#8 ∧
    ¬undefinedNumber 0x08#8 ∧ ¬undefinedNumber 0x10#8 ∧ ¬undefinedNumber 0x18#8 ∧ ¬undefinedNumber 0x20#8 ∧
    ¬undefinedNumber 0x33#8 ∧ ¬undefinedNumber 0x38#8 ∧ ¬undefinedNumber 0x3A#8 := by
  unfold undefinedNumber
  and_intros <;> decide

theorem witness_WrregWrites :
    0x3F3F#32 &&& 0xFFFFC0C0#32 = 0#32 ∧ 0x40#32 &&& 0xFFFFC0C0#32 ≠ 0#32 ∧
    1#32 &&& 0xFFFFFFFE#32 = 0#32 ∧ 0#32 &&& 0xFFFFFFFE#32 = 0#32 ∧ 2#32 &&& 0xFFFFFFFE#32 ≠ 0#32 ∧
    ¬descriptorNumber 0x04#8 ∧ ¬descriptorNumber 0x0F#8 ∧ ¬descriptorNumber 0x14#8 ∧ descriptorNumber 0x03#8 ∧
    descriptorNumber 0x13#8 := by
  unfold descriptorNumber; decide

theorem witness_IrqenResult : ({ idle with ien := 0x27F#32 }).ien &&& ~~~0x27F#32 = 0#32 := by decide

/-- Both forms of `EffectiveLength`: no data, and a stream block to the card of 512 and of 513 bytes. -/
theorem witness_EffectiveLength :
    ({ Bank.reset with ctl := 0x1103#32 } : Bank).ctl.getLsbD 3 = false ∧
    ({ Bank.reset with ctl := 0x112B#32, blk := 0x10200#32 } : Bank).effLen = 520 ∧
    ({ Bank.reset with ctl := 0x112B#32, blk := 0x10201#32 } : Bank).effLen = 513 := by decide

/-- Without data, and with data that just fits. -/
theorem witness_SendAccepted :
    (sending 0x1103#32 .idle).bank0.ctl.getLsbD 0 = true ∧ (sending 0x1103#32 .idle).bank0.ctl.getLsbD 3 = false ∧
    ({ Bank.reset with ctl := 0x111B#32, blk := 0x10400#32 } : Bank).ctl.getLsbD 0 = true ∧
    ({ Bank.reset with ctl := 0x111B#32, blk := 0x10400#32 } : Bank).effLen ≤ idle.params.bounceCap := by decide

/-- Each micro-step has a state about to take it; the clauses of S7, S9, S10, S11 at their boundaries. -/
theorem witness_MicroSteps :
    (sending 0x1103#32 .evtReset).phase = .evtReset ∧ (sending 0x112B#32 .dataProg).phase = .dataProg ∧
    (sending 0x112B#32 .dmaArm).phase = .dmaArm ∧ (sending 0x1103#32 .setPend).phase = .setPend ∧
    (sending 0x1103#32 .irqEn).phase = .irqEn ∧ (sending 0x1103#32 .cmdStart).phase = .cmdStart ∧
    (sending 0x1103#32 .classify).phase = .classify := by decide

/-- The three ways the current slot is chosen (`42_sequencer.md`, before R110), in S1 and in S4. -/
theorem witness_StepEvtReset_StepSetPend :
    ({ sending 0x1103#32 .evtReset with xseq := ⟨.none, true, .stop⟩ }).xseq.direct = true ∧
    ({ sending 0x1103#32 .evtReset with xseq := ⟨.none, true, .stop⟩ }).cs = .stop ∧
    (executing 0x1103#32 0 .main).xseq.direct = false ∧ (executing 0x1103#32 0 .main).cs = .main ∧
    (executing 0x1103#32 0 .stop).xseq.stage ≠ .main ∧ (executing 0x1103#32 0 .stop).cs = .stop ∧
    ({ executing 0x1103#32 0 .stop with phase := .setPend }).phase = .setPend := by decide

theorem witness_StepWait :
    (sending 0x1103#32 .wait).phase = .wait ∧ ({ sending 0x1103#32 .wait with evtSet := true }).evtSet = true ∧
    (sending 0x1103#32 .wait).evtSet = false ∧ 5 ≤ ({ sending 0x1103#32 .wait with wcnt := 5#8 }).wcnt.toNat ∧
    ({ sending 0x1103#32 .wait with wcnt := 4#8 }).wcnt.toNat < 5 := by decide

theorem witness_StepDrain_DrainEnds :
    (sending 0x112B#32 .drain).phase = .drain ∧ (0x1#32 &&& 0x180#32 = 0#32 ∧ 0x1#32 &&& 0xF#32 ≠ 0#32) ∧
    (0x10#32 &&& 0x180#32 = 0#32 ∧ 0x10#32 &&& 0xF#32 = 0#32) ∧ 0x80#32 &&& 0x180#32 ≠ 0#32 ∧
    (sending 0x112B#32 .drain).spin = 0#32 ∧ ({ sending 0x112B#32 .drain with spin := 1#32 }).spin ≠ 0#32 := by decide

/-- A drain with a running flag raised and one unit of budget. -/
def draining : State := { sending 0x112B#32 .drain with spin := 1#32, rawsta := 0x80#32 }

/-- Steps of the drain, by ENGINE and by another agent, and a schedule with `SPIN + 1` steps of ENGINE. -/
theorem witness_DrainEnds :
    draining.phase = .drain ∧ draining.ctl.busy = true ∧
    agentStep .engine draining = .next (stepDrain draining) ∧ agentStep .tick draining = .next (tickStep draining) ∧
    AgentStep.isReset .tick = false ∧
    draining.spin.toNat + 1 ≤ [AgentStep.engine, .tick, .engine].count .engine ∧
    goesOn (runAgents [.engine, .tick, .engine] draining) = true := by
  refine ⟨rfl, rfl, rfl, rfl, rfl, by decide, by decide⟩

theorem witness_StepDrainExit :
    (sending 0x112B#32 .drainExit).phase = .drainExit ∧
    ({ sending 0x112B#32 .drainExit with drainfail := true }).drainfail = true ∧
    (sending 0x112B#32 .drainExit).drainfail = false := by decide

theorem witness_StepCleanup :
    (sending 0x1103#32 .cleanup).phase = .cleanup ∧
    ({ sending 0x1103#32 .cleanup with ien := 0x27F#32 }).ien &&& ~~~0x27F#32 = 0#32 ∧
    (sending 0x1103#32 .cleanup).xseq.direct = true ∧
    ({ executing 0x1103#32 0 .main with phase := .cleanup }).xseq.direct = false := by decide

theorem witness_SendRuns :
    (sending 0x1103#32 .evtReset).phase = .evtReset ∧ (sending 0x1103#32 .evtReset).xseq.direct = true ∧
    ((sending 0x1103#32 .evtReset).bank (sending 0x1103#32 .evtReset).cs).ctl.getLsbD 3 = false ∧
    (sending 0x1103#32 .evtReset).rawsta = 0#32 ∧
    ((sending 0x112B#32 .evtReset).bank (sending 0x112B#32 .evtReset).cs).ctl.getLsbD 3 = true := by decide

/-- A valid request, and one witness for each reason of R130, at its boundary. -/
theorem witness_ExecAcceptance :
    ¬invalidRequest (executing 0x111B#32 1024 .none) ∧ invalidRequest (executing 0x111B#32 1025 .none) ∧
    invalidRequest idle ∧ invalidRequest { idle with bank1 := { Bank.reset with ctl := 0x0C0B#32 } } ∧
    invalidRequest { idle with bank0 := { Bank.reset with ctl := 0x113B#32, blk := 0x20001#32 } } ∧
    ¬invalidRequest (executing 0x113B#32 1016 .none) ∧ invalidRequest (executing 0x113B#32 1017 .none) ∧
    ¬invalidRequest { idle with bank0 := { Bank.reset with ctl := 0x111B#32, blk := 0x10004#32, buf := 0xFFFFFFFC#32 } } ∧
    invalidRequest { idle with bank0 := { Bank.reset with ctl := 0x111B#32, blk := 0x10004#32, buf := 0xFFFFFFFD#32 } } := by
  unfold invalidRequest
  and_intros <;> decide

/-- A channel that an earlier read left armed over four bytes of `BUF`. -/
def leftArmed (s : State) : State := { s with dmactl := ⟨true, .fromCard, .w32⟩, dmalen := 4#32 }

/-- R43, R56: a copy-out of two bytes, where DMA moves byte 0 after the copy has read it and byte 1 before: the caller gets
the old byte 0 and the new byte 1. -/
theorem test_copy_out_with_dma_inside :
    Mem.readBytes (after (agentStep .engine (leftArmed { executing 0x111B#32 2 .copyOut with
      duringCopy := [[], [(0, 0xA5#8), (1, 0x5A#8)]] })) idle).hostmem 0x100 2 = [0x00#8, 0x5A#8] ∧
    Mem.readBytes (after (agentStep .engine (leftArmed { executing 0x111B#32 2 .copyOut with
      duringCopy := [[], [(0, 0xA5#8), (1, 0x5A#8)]] })) idle).buf 0 2 = [0xA5#8, 0x5A#8] := by decide

/-- R43: a copy-in of two bytes `11 22`, where DMA moves byte 0 after the copy has written it and byte 1 before. -/
theorem test_copy_in_with_dma_inside :
    Mem.readBytes (after (agentStep .engine (leftArmed { executing 0x110B#32 2 .copyIn with
      hostmem := [(0x100, 0x11#8), (0x101, 0x22#8)], duringCopy := [[], [(0, 0xA5#8), (1, 0x5A#8)]] })) idle).buf 0 2 =
      [0xA5#8, 0x22#8] := by decide

set_option maxRecDepth 8000 in
/-- R43, R206: CRC16S4 over four zero bytes. DMA moves byte 1 before its read, so the trailer is that of `00 F0 00 00`, and
byte 0 after its read, so the trailer does not see it. -/
theorem test_crc16s4_with_dma_inside :
    Mem.readBytes (after (exec (.crc16s4 4#16 0#32) (leftArmed { idle with
      duringCopy := [[], [(0, 0xFF#8), (1, 0xF0#8)]] })) idle).buf 0 12 =
      [0xFF#8, 0xF0#8, 0x00#8, 0x00#8] ++ s4Trailer [0x00#8, 0xF0#8, 0x00#8, 0x00#8] := by decide

/-- A state with a channel left armed and DMA steps inside the next copy. -/
theorem witness_DmaInside :
    (leftArmed idle).dmactl.en = true ∧ (leftArmed idle).dmactl.dir = .fromCard ∧ 3 < (leftArmed idle).dmalen.toNat ∧
    3 < (leftArmed idle).params.bounceCap ∧
    ({ leftArmed idle with duringCopy := [[], [(3, 0xA5#8)]] }).inside 0 2 = [(3, 0xA5#8)] ∧
    ({ leftArmed idle with duringCopy := [[], [(3, 0xA5#8)]] }).inside 0 1 = [] ∧
    (leftArmed idle).landed [(3, 0xA5#8)] 3 0x00#8 = 0xA5#8 ∧ idle.landed [(3, 0xA5#8)] 3 0x00#8 = 0x00#8 := by decide

theorem witness_StageCopyIn :
    (executing 0x110B#32 4 .copyIn).phase = .idle ∧ (executing 0x110B#32 4 .copyIn).xseq.stage = .copyIn ∧
    ¬invalidRequest (executing 0x110B#32 4 .copyIn) ∧
    ((executing 0x110B#32 4 .copyIn).bank0.ctl.getLsbD 0 = true ∧ (executing 0x110B#32 4 .copyIn).bank0.ctl.getLsbD 3 = true ∧
      (executing 0x110B#32 4 .copyIn).bank0.ctl.getLsbD 4 = false) ∧
    (executing 0x1103#32 4 .copyIn).bank0.ctl.getLsbD 3 = false := by
  unfold invalidRequest; decide

theorem witness_StageCopyOut :
    (executing 0x111B#32 4 .copyOut).phase = .idle ∧ (executing 0x111B#32 4 .copyOut).xseq.stage = .copyOut ∧
    ¬invalidRequest (executing 0x111B#32 4 .copyOut) ∧ (executing 0x111B#32 4 .copyOut).bank0.ctl.getLsbD 0 = true ∧
    ((executing 0x111B#32 4 .copyOut).bank0.ctl.getLsbD 3 = true ∧
      (executing 0x111B#32 4 .copyOut).bank0.ctl.getLsbD 4 = true) ∧
    (executing 0x110B#32 4 .copyOut).bank0.ctl.getLsbD 4 = false := by
  unfold invalidRequest; decide

theorem witness_StageRelease :
    (executing 0x111B#32 4 .release).phase = .idle ∧ (executing 0x111B#32 4 .release).xseq.stage = .release := by decide

/-- A block of four bytes from the card, of which the channel moves the last and the first. -/
theorem witness_ExecDeliversCardBytes :
    (executing 0x111B#32 4 .none).phase = .idle ∧ (executing 0x111B#32 4 .none).xseq.direct = false ∧
    (executing 0x111B#32 4 .none).rawsta = 0#32 ∧ ¬invalidRequest (executing 0x111B#32 4 .none) ∧
    (executing 0x111B#32 4 .none).bank0.ctl.getLsbD 0 = true ∧ (executing 0x111B#32 4 .none).bank0.ctl.getLsbD 3 = true ∧
    (executing 0x111B#32 4 .none).bank0.ctl.getLsbD 4 = true ∧
    (executing 0x111B#32 4 .none).bank1.ctl.getLsbD 0 = false ∧
    ∀ m ∈ [(3, 0xA5#8), (0, 0x5A#8)],
      m.1 < (executing 0x111B#32 4 .none).bank0.blkcnt * (executing 0x111B#32 4 .none).bank0.blksize := by
  unfold invalidRequest
  and_intros <;> decide

theorem witness_RecoverRuns :
    ({ idle with phase := .recovOff }).phase = .recovOff ∧ ({ idle with phase := .recovOn }).phase = .recovOn ∧
    ¬(idle.xseq.direct = true ∨ idle.xseq.stage = .main ∨ idle.xseq.stage = .stop) ∧
    (sending 0x112B#32 .recovOn).xseq.direct = true := by decide

/-- The idle chip meets the invariant. -/
theorem witness_Inv_idle : Inv idle where
  mem := ⟨by decide, by decide, by decide, by decide⟩
  reg := ⟨by decide, by decide, by intro c; cases c <;> decide, by decide, by decide, by intro c; cases c <;> decide,
    by intro c; cases c <;> decide, by decide⟩
  ctl := ⟨by decide, by decide, by decide, by decide, by decide, by decide, by decide,
    fun h => absurd h (by decide), fun h => by simp [Phase.armed, idle, State.reset] at h,
    by decide, fun _ => by decide, fun h => by simp [Phase.dataOnly, idle, State.reset] at h,
    by decide, by decide, by decide, by decide⟩

/-- A command in flight: S5 to S7 of a direct SEND without data. -/
def waiting : State := { sending 0x1103#32 .wait with pend := ⟨true, .main⟩, ien := 0x03F#32, cmdreg := 0x151#9 }

/-- A busy chip that meets the invariant, held in the wait. -/
theorem witness_Inv_waiting : Inv waiting where
  mem := ⟨by decide, by decide, by decide, by decide⟩
  reg := ⟨by decide, by decide, by intro c; cases c <;> decide, by decide, by decide, by intro c; cases c <;> decide,
    by intro c; cases c <;> decide, by decide⟩
  ctl := ⟨by decide, by decide, by decide, by decide, by decide, by decide, by decide,
    fun _ => ⟨Or.inl (Or.inr (Or.inr rfl)), by decide, by decide⟩, fun _ => by decide,
    by decide, fun h => by simp [Phase.beforeEnable, waiting, sending, idle, State.reset, State.insideSend] at h,
    fun h => by simp [Phase.dataOnly, waiting, sending] at h, by decide, by decide, by decide, by decide⟩

/-- The same command with its five ticks passed: busy and not held. -/
theorem witness_Inv_timedOut : Inv { waiting with wcnt := 5#8 } where
  mem := by obtain ⟨h, _, _⟩ := witness_Inv_waiting; exact ⟨h.1, h.2, h.3, h.4⟩
  reg := by obtain ⟨_, h, _⟩ := witness_Inv_waiting; exact ⟨h.1, h.2, h.3, h.4, h.5, h.6, h.7, h.8⟩
  ctl := by
    obtain ⟨_, _, h⟩ := witness_Inv_waiting
    exact ⟨h.1, h.2, h.3, h.4, h.5, h.6, h.7, h.8, h.9, h.10, h.11, h.12, h.13, h.14, h.15, h.16⟩

/-- With `witness_Inv_timedOut` and `witness_Inv_idle`: a busy state that is not held, and a free one. -/
theorem witness_EngineNeverStuck :
    ({ waiting with wcnt := 5#8 }).ctl.busy = true ∧
    ¬(({ waiting with wcnt := 5#8 }).phase = .wait ∧ ({ waiting with wcnt := 5#8 }).evtSet = false ∧
      ({ waiting with wcnt := 5#8 }).wcnt.toNat < 5) ∧ idle.ctl.busy = false := by decide

/-- No enabled flag; a command completed by a response; a card interrupt that completes nothing. -/
theorem witness_IsrStep :
    waiting.rawsta &&& waiting.ien &&& 0x27F#32 = 0#32 ∧
    (0x10#32 &&& waiting.ien &&& 0x27F#32 = 0x10#32 ∧ (0x10#32 : Word) ≠ 0#32 ∧
      (true = true ↔ waiting.pend.valid = true ∧
        (0x10#32 &&& 0xF#32 ≠ 0#32 ∨ (0x10#32).getLsbD 6 = true ∨
          (((0x10#32).getLsbD 5 = true ∨ (0x10#32).getLsbD 4 = true) ∧
            (waiting.bank waiting.pend.slot).ctl.getLsbD 3 = false)))) ∧
    (0x200#32 &&& 0x200#32 &&& 0x27F#32 = 0x200#32 ∧
      (false = true ↔ idle.pend.valid = true ∧
        (0x200#32 &&& 0xF#32 ≠ 0#32 ∨ (0x200#32).getLsbD 6 = true ∨
          (((0x200#32).getLsbD 5 = true ∨ (0x200#32).getLsbD 4 = true) ∧
            (idle.bank idle.pend.slot).ctl.getLsbD 3 = false)))) := by decide

/-- An ISR step that signals, and one that does not. -/
theorem witness_IsrQuietsTheRequest :
    agentStep .isr { waiting with rawsta := 0x10#32 } = .next (isrStep { waiting with rawsta := 0x10#32 }) ∧
    (isrStep { waiting with rawsta := 0x10#32 }).evtSet = true ∧ waiting.evtSet = false := by
  exact ⟨rfl, by decide, by decide⟩

/-- Targets of the second clause of `BusLiberties`, with the controller disabled and enabled. -/
theorem witness_BusLiberties :
    0x041#32 &&& ~~~0x3FF#32 = 0#32 ∧ 0x180#32 &&& ~~~0x3FF#32 = 0#32 ∧
    ({ idle with ctl := ⟨false, true⟩ }).ctl.ctlen = false ∧ 0x041#32 &&& 0x27F#32 &&& ~~~0x1C1#32 = 0#32 := by decide

/-- Armed from the card at the last index and at the first one outside; armed to the card; not armed. -/
theorem witness_DmaStep :
    ({ idle with dmactl := ⟨true, .fromCard, .w32⟩, dmalen := 1024#32 }).dmactl.en = true ∧
    (1024#32).toNat ≤ idle.params.bounceCap ∧ 1023 < (1024#32).toNat ∧ (1024#32).toNat ≤ 1024 ∧
    ({ idle with dmactl := ⟨true, .toCard, .w32⟩, dmalen := 1024#32 }).dmactl.dir = .toCard ∧
    idle.dmactl.en = false := by decide

/-- Each reason to refuse, and the accepted side at the threshold. -/
theorem witness_ApplyConfig :
    waiting.ctl.busy = true ∧ 399999 < 400000 ∧ ((3 : Nat) ≠ 1 ∧ (3 : Nat) ≠ 4 ∧ (3 : Nat) ≠ 8) ∧
    idle.ctl.busy = false ∧ 400000 ≤ (BusConfig.mk 400000 0 4 .on).source ∧ (BusConfig.mk 400000 0 4 .on).lines = 4 ∧
    (BusConfig.mk 400000 0 1 .up).power = .up ∧ (BusConfig.mk 400000 0 8 .off).power = .off := by decide

theorem witness_ApplyIdempotent :
    agentStep (.apply ⟨48000000, 400000, 4, .on⟩) idle = .next (applyStep ⟨48000000, 400000, 4, .on⟩ idle) := rfl

/-- Before and after a successful `apply`; a draw of as many bytes as `BUF` has. -/
theorem witness_ResetValues :
    idle.busApplied = false ∧ ({ idle with busApplied := true }).busApplied = true ∧
    (List.replicate 1024 0xA5#8).length = idle.params.bounceCap := by
  refine ⟨rfl, rfl, ?_⟩
  rw [List.length_replicate]
  rfl

/-- A step of the machine from a state that meets the invariant (`witness_Inv_waiting` with a schedule). -/
theorem witness_StepKeepsInvariant_NoStepStops :
    Inv { waiting with script := [.tick] } ∧
    step { waiting with script := [.tick] } = .next (tickStep waiting) := by
  refine ⟨⟨⟨?_, ?_, ?_, ?_⟩, ?_, ?_⟩, rfl⟩
  · exact witness_Inv_waiting.mem.bufCanonical
  · exact witness_Inv_waiting.mem.bufRange
  · exact witness_Inv_waiting.mem.hostCanonical
  · exact witness_Inv_waiting.mem.hostRange
  · exact ⟨by decide, by decide, by intro c; cases c <;> decide, by decide, by decide, by intro c; cases c <;> decide,
      by intro c; cases c <;> decide, by decide⟩
  · have h := witness_Inv_waiting.ctl
    exact ⟨h.idleWhenFree, h.workWhenBusy, h.sendStage, h.plainStage, h.directSend, h.recoverOnly, h.ctlenOff,
      h.pendWhere, h.pendOrEvent, h.eventReset, h.errorsOff, h.dataAttached, h.directOk, h.requestOk, h.mainValid,
      h.stopValid⟩

theorem witness_MemoryStaysCanonical : Mem.wf [(3, 0xA5#8), (7, 0x01#8)] ∧ ¬Mem.wf [(3, 0x00#8)] := by decide

/-- Steps of several agents for the statements about every step but a reset. -/
theorem witness_WholeMachine :
    AgentStep.engine.isReset = false ∧ goesOn (agentStep .engine waiting) = true ∧
    goesOn (agentStep .isr waiting) = true ∧ goesOn (agentStep (.host 0x2200000000000000#64) idle) = true ∧
    idle.acceptedWord (.host 0x2200000000000000#64) = some 0x2200000000000000#64 ∧
    waiting.acceptedWord (.host 0x2200000000000000#64) = none := by decide

end Sys2Proof.Tests
end

section
/-! SUPPORT. The register numbers that spell no register (R35, R37), and what RDREG and WRREG answer to one. -/

namespace Sys2Proof.Machine

open Sys2Proof

/-- A descriptor bank defines the low digits 0 to 8 (R12). -/
theorem bankRegOfNum_eq_none_iff (n : Nat) : bankRegOfNum n = none ↔ 9 ≤ n := by
  unfold bankRegOfNum
  split <;> simp
  -- the default case: the number is none of the listed ones
  simp only [imp_false] at *
  omega

/-- Above the banks R35 defines 0x20 to 0x33 and 0x38 to 0x3A. -/
theorem upperRegOfNum_eq_none_iff (n : Nat) (h : 0x20 ≤ n) :
    upperRegOfNum n = none ↔ (0x34 ≤ n ∧ n ≤ 0x37) ∨ 0x3B ≤ n := by
  unfold upperRegOfNum
  split <;> simp
  -- the default case: the number is none of the listed ones
  simp only [imp_false] at *
  omega

/-- The decoder of register numbers has no register for exactly the numbers that R35 does not list. -/
theorem regOfNum_eq_none_iff (n : BitVec 8) : regOfNum n = none ↔ undefinedNumber n := by
  unfold regOfNum undefinedNumber
  split
  · -- bank 0
    simp only [Option.map_eq_none_iff, bankRegOfNum_eq_none_iff]
    omega
  · split
    · -- bank 1
      simp only [Option.map_eq_none_iff, bankRegOfNum_eq_none_iff]
      omega
    · -- the registers above the banks
      rw [upperRegOfNum_eq_none_iff _ (by omega)]
      omega

theorem wellFormed_rdreg_of_undefinedNumber {n : BitVec 8} (h : undefinedNumber n) :
    (Instr.rdreg n).wellFormed = false := by
  simp [Instr.wellFormed, readOk, (regOfNum_eq_none_iff n).2 h]

theorem wellFormed_wrreg_of_undefinedNumber {n : BitVec 8} (v : Word) (h : undefinedNumber n) :
    (Instr.wrreg n v).wellFormed = false := by
  simp [Instr.wellFormed, writeOk, (regOfNum_eq_none_iff n).2 h]

/-- Everything a refusal by operand value changes: the result `(IllegalOperand, 0)` is put out. -/
theorem State.refuseOperand_record (s : State) :
    s.refuseOperand = { s with out := .result .illegalOperand 0#64 :: s.out } := rfl

/-- Settles O18: both operations are ill formed on an undefined number, and an ill-formed operation is refused. -/
theorem undefinedRegisterNumbers : Obligations.UndefinedRegisterNumbers := by
  intro n v s h
  rw [← s.refuseOperand_record]
  exact ⟨exec_of_ill_formed _ s (wellFormed_rdreg_of_undefinedNumber h),
    exec_of_ill_formed _ s (wellFormed_wrreg_of_undefinedNumber v h)⟩

end Sys2Proof.Machine
end

section
/-! SUPPORT. The two steps that append a trailer to data in `BUF`: CRC16S4 (R90) and S2 of SEND (R113). -/

namespace Sys2Proof.Machine

open Sys2Proof

/-- Within the ceiling and within `BUF`, CRC16S4 appends the trailer and answers `(OK, 0)`. -/
theorem exec_crc16s4_of_fits {len : BitVec 16} {addr : BitVec 32} {s : State} (hlen : len.toNat ≤ 512)
    (hcap : addr.toNat + len.toNat + 8 ≤ s.params.bounceCap) :
    exec (.crc16s4 len addr) s = .next ((s.appendTrailer addr.toNat len.toNat).deliver .ok 0#64) := by
  have h1 : ¬Config.s4Ceiling < len.toNat := Nat.not_lt.mpr hlen
  have h2 : ¬s.params.bounceCap < addr.toNat + len.toNat + Config.trailerBytes := Nat.not_lt.mpr hcap
  simp only [exec, execCrc16s4, if_neg h1, if_neg h2]

/-- Settles O15: `BUF` is read as `read_appendTrailer` says, and the answer touches the result port alone. -/
theorem crc16s4Appends : Obligations.Crc16s4Appends := fun len addr s hlen hcap =>
  ⟨_, exec_crc16s4_of_fits hlen hcap, rfl, rfl, s.read_appendTrailer addr.toNat len.toNat⟩

/-- The state in which S2 appends the trailer: the data path is off (R113). -/
def State.dataPathOff (s : State) : State := { s with dctl := ⟨false, .toCard, .block⟩ }

/-- Without a trailer S2 writes neither memory. -/
theorem stepDataProg_of_not_crc {s : State} (h : s.cur.crc = false) :
    stepDataProg s = { s with
      dctl := ⟨false, s.cur.dir, s.cur.mode⟩, dlen := BitVec.ofNat 32 s.cur.effLen,
      dblk := BitVec.ofNat 32 s.cur.effBlk, phase := .dmaArm } := by
  simp [stepDataProg, State.setPhase, h]

/-- With a trailer S2 writes `BUF` as the codec's append does. -/
theorem stepDataProg_of_crc {s : State} (h : s.cur.crc = true) :
    stepDataProg s = { s with
      dctl := ⟨false, s.cur.dir, s.cur.mode⟩, dlen := BitVec.ofNat 32 s.cur.effLen,
      dblk := BitVec.ofNat 32 s.cur.effBlk, phase := .dmaArm,
      buf := (s.dataPathOff.appendTrailer 0 s.cur.len).buf, duringCopy := [] } := by
  simp only [stepDataProg, State.setPhase, h, if_true]
  rfl

theorem agentStep_engine_dataProg {s : State} (h : s.phase = .dataProg) :
    agentStep .engine s = .next (stepDataProg s) := by
  simp [agentStep, engineStep, h]

/-- Settles O25: by whether the trailer is due. (The plain name is the model's own function.) -/
theorem stepDataProg_holds : Obligations.StepDataProg := by
  intro s hphase
  refine ⟨_, agentStep_engine_dataProg hphase, ?_⟩
  cases hcrc : s.cur.crc
  · rw [stepDataProg_of_not_crc hcrc]
    exact ⟨rfl, rfl, fun a => rfl⟩
  · rw [stepDataProg_of_crc hcrc]
    refine ⟨rfl, rfl, fun a => ?_⟩
    have hread := s.dataPathOff.read_appendTrailer 0 s.cur.len a
    simp only [Nat.zero_add, Nat.sub_zero] at hread
    exact hread

end Sys2Proof.Machine
end

section
/-! SUPPORT. Over every step but a reset, who can change a byte of `BUF` or of `HOSTMEM`: the copies with the DMA steps
inside them (R43), the steps that write neither memory, and the cases that are left (`MemEffect`). -/

namespace Sys2Proof.Machine

open Sys2Proof

/-! ## The bytes of `BUF` that a copy can change (R43) -/

/-- A DMA step that the schedule puts inside the next copy can move a byte to `a` (R43, R153). -/
def State.dmaReaches (s : State) (a : Nat) : Prop :=
  s.dmactl.en = true ∧ s.dmactl.dir = .fromCard ∧ a < s.dmalen.toNat ∧ ∃ v, (a, v) ∈ s.duringCopy.flatten

/-- From `s` to `t`, `BUF` changes at most in the block from `lo` up to `hi` and where a DMA step inside the copy
reaches. -/
def CopyChanges (s t : State) (lo hi : Nat) : Prop :=
  ∀ a, Mem.read t.buf a ≠ Mem.read s.buf a → (lo ≤ a ∧ a < hi) ∨ s.dmaReaches a

/-- DMA steps that change a byte run on a channel armed from the card, and one of them names the byte. -/
theorem State.dmaReaches_of_landed_ne {s : State} {moves : List DmaMove} {a : Nat} {v : Byte}
    (hmoves : moves ⊆ s.duringCopy.flatten) (h : s.landed moves a v ≠ v) : s.dmaReaches a := by
  unfold State.landed at h
  split at h
  · rename_i harmed
    obtain ⟨hen, hdir, hlen, -⟩ := harmed
    have hne : moves.filter (fun m => m.1 == a) ≠ [] := fun hnil => h (by rw [hnil]; rfl)
    obtain ⟨m, hm⟩ := List.exists_mem_of_ne_nil _ hne
    obtain ⟨hmem, hat⟩ := List.mem_filter.mp hm
    obtain rfl : m.1 = a := beq_iff_eq.mp hat
    exact ⟨hen, hdir, hlen, m.2, hmoves hmem⟩
  · exact absurd rfl h

theorem flatten_take_subset (gaps : List (List DmaMove)) (n : Nat) : (gaps.take n).flatten ⊆ gaps.flatten :=
  ((List.take_sublist n gaps).flatten).subset

theorem State.inside_subset (s : State) (lo hi : Nat) : s.inside lo hi ⊆ s.duringCopy.flatten :=
  (((List.drop_sublist lo _).trans (List.take_sublist hi _)).flatten).subset

theorem State.appendTrailer_changes (s : State) (a n : Nat) :
    CopyChanges s (s.appendTrailer a n) (a + n) (a + n + 8) := by
  intro b hb
  rw [s.read_appendTrailer] at hb
  split at hb
  · exact Or.inl ‹_›
  · exact Or.inr (State.dmaReaches_of_landed_ne (s.inside_subset _ _) hb)

/-- A copy into `BUF` changes the block it writes. -/
theorem State.writeBuf_changes {s t : State} {a hi : Nat} {vs : List Byte}
    (ht : t.buf = s.writeBuf s.duringCopy a vs s.buf) (hhi : a + vs.length = hi) : CopyChanges s t a hi := by
  subst hhi
  intro b hb
  rw [ht, s.read_writeBuf] at hb
  split at hb
  · exact Or.inl ‹_›
  · exact Or.inr (State.dmaReaches_of_landed_ne (flatten_take_subset _ _) hb)

/-- A copy out of `BUF` changes `BUF` by nothing but the DMA steps inside. -/
theorem State.readBuf_changes {s t : State} {a n : Nat} (ht : t.buf = (s.readBuf s.duringCopy a n s.buf).2)
    (b : Nat) (hb : Mem.read t.buf b ≠ Mem.read s.buf b) : s.dmaReaches b := by
  rw [ht, s.readBuf_mem, s.read_dmaMoves] at hb
  exact State.dmaReaches_of_landed_ne (flatten_take_subset _ _) hb

/-! ## The steps that write neither memory -/

/-- The two memories. -/
def State.memories (s : State) : Mem × Mem := (s.buf, s.hostmem)

@[simp] theorem State.emit_memories (s : State) (o : Output) : (s.emit o).memories = s.memories := rfl

@[simp] theorem State.deliver_memories (s : State) (c : PortCode) (v : BitVec 64) :
    (s.deliver c v).memories = s.memories := rfl

@[simp] theorem State.refuseOperand_memories (s : State) : s.refuseOperand.memories = s.memories := rfl

@[simp] theorem State.refuseOp_memories (s : State) : s.refuseOp.memories = s.memories := rfl

@[simp] theorem State.setBank_memories (s : State) (c : Slot) (b : Bank) :
    (s.setBank c b).memories = s.memories := by simp [State.memories]

@[simp] theorem State.raiseCmd_memories (s : State) (c : Slot) (e : ErrCode) :
    (s.raiseCmd c e).memories = s.memories := by simp [State.raiseCmd]

@[simp] theorem State.setPhase_memories (s : State) (p : Phase) : (s.setPhase p).memories = s.memories := rfl

@[simp] theorem State.setStage_memories (s : State) (g : Stage) : (s.setStage g).memories = s.memories := rfl

@[simp] theorem State.setBusy_memories (s : State) (b : Bool) : (s.setBusy b).memories = s.memories := rfl

@[simp] theorem State.setCardIrqEnable_memories (s : State) (b : Bool) :
    (s.setCardIrqEnable b).memories = s.memories := by cases b <;> rfl

@[simp] theorem State.writeReg_memories (s : State) (r : Reg) (v : Word) :
    (s.writeReg r v).memories = s.memories := by
  cases r with
  | bank c br => exact s.setBank_memories c _
  | codecst => simp only [State.writeReg]; split <;> rfl
  | _ => rfl

@[simp] theorem State.refuseRequest_memories (s : State) : s.refuseRequest.memories = s.memories := by
  cases h0 : s.bank0.valid <;> cases h1 : s.bank1.valid <;> simp [State.refuseRequest, h0, h1]

@[simp] theorem isrStep_memories (s : State) : (isrStep s).memories = s.memories := by
  obtain ⟨h, -⟩ | ⟨h, -⟩ | ⟨h, -⟩ := isrStep_cases s <;> simp [h, State.memories, State.acknowledge_record]

theorem busAct_memories (s : State) (act : BusAct) : (busAct s act).memories = s.memories := by
  cases act with
  | writeResp i v => fin_cases i <;> rfl
  | clearRaw mask => simp only [busAct]; split <;> rfl
  | raiseFlags _ | setRunning _ _ | clearStart => rfl

@[simp] theorem busStep_memories (acts : List BusAct) (s : State) : (busStep acts s).memories = s.memories := by
  induction acts generalizing s with
  | nil => rfl
  | cons act acts ih => exact (ih (busAct s act)).trans (busAct_memories s act)

@[simp] theorem tickStep_memories (s : State) : (tickStep s).memories = s.memories := by
  unfold tickStep; split <;> rfl

@[simp] theorem applyStep_memories (c : BusConfig) (s : State) : (applyStep c s).memories = s.memories := by
  obtain h | ⟨_, -, -, -, h⟩ := applyStep_cases c s
  · rw [h]
  · rw [h]; rfl

@[simp] theorem stepEvtReset_memories (s : State) : (stepEvtReset s).memories = s.memories := by
  simp [stepEvtReset, State.setCur, State.memories]

@[simp] theorem stepDmaArm_memories (s : State) : (stepDmaArm s).memories = s.memories := rfl

@[simp] theorem stepSetPend_memories (s : State) : (stepSetPend s).memories = s.memories := rfl

@[simp] theorem stepIrqEn_memories (s : State) : (stepIrqEn s).memories = s.memories := rfl

@[simp] theorem stepCmdStart_memories (s : State) : (stepCmdStart s).memories = s.memories := rfl

@[simp] theorem stepWait_memories (s : State) : (stepWait s).memories = s.memories := by
  obtain ⟨-, h⟩ | ⟨-, -, h⟩ | ⟨-, -, h⟩ := stepWait_cases s <;> simp [h, State.memories, State.raiseCmd]

@[simp] theorem stepClassify_memories (s : State) : (stepClassify s).memories = s.memories := by
  cases h : s.cur.hasData <;> simp [stepClassify, State.setCur, State.memories, h]

@[simp] theorem stepDrain_memories (s : State) : (stepDrain s).memories = s.memories := by
  obtain ⟨-, h⟩ | ⟨-, -, h⟩ | ⟨-, -, h⟩ := stepDrain_cases s <;> rw [h] <;> rfl

@[simp] theorem stepDrainExit_memories (s : State) : (stepDrainExit s).memories = s.memories := by
  cases h : s.drainfail <;> simp [stepDrainExit, State.memories, State.raiseCmd, h]

@[simp] theorem stepCleanup_memories (s : State) : (stepCleanup s).memories = s.memories := by
  simp only [stepCleanup]
  split
  · rfl
  · split <;> rfl

@[simp] theorem stepRecovOff_memories (s : State) : (stepRecovOff s).memories = s.memories := rfl

@[simp] theorem stepRecovOn_memories (s : State) : (stepRecovOn s).memories = s.memories := by
  simp only [stepRecovOn]; split <;> rfl

@[simp] theorem stageRelease_memories (s : State) : (stageRelease s).memories = s.memories := rfl

theorem State.memories_eq_iff (s t : State) :
    t.memories = s.memories ↔ t.buf = s.buf ∧ t.hostmem = s.hostmem := Prod.ext_iff

/-- No operation but CRC16S4 writes a memory. -/
theorem exec_memories {i : Instr} {s t : State} (hi : ∀ len addr, i ≠ .crc16s4 len addr)
    (h : exec i s = .next t) : t.memories = s.memories := by
  cases i with
  | crc16s4 len addr => exact absurd rfl (hi len addr)
  | crc7 nbits data crc => simp only [exec, execCrc7] at h; split at h <;> cases h <;> simp
  | crc16 nbits data crc => simp only [exec, execCrc16] at h; split at h <;> cases h <;> simp
  | rdreg reg => simp only [exec, execRdreg] at h; split at h <;> cases h <;> simp
  | wrreg reg value =>
    simp only [exec, execWrreg] at h
    split at h
    · cases h; simp
    · split at h
      · cases h; simp
      · split at h <;> cases h <;> simp
  | irqen b => cases h; simp
  | detect => cases h; simp
  | send slot => simp only [exec, execSend] at h; split at h <;> cases h <;> rfl
  | exec => simp only [exec, execExec] at h; split at h <;> cases h <;> simp
  | recover => cases h; simp

/-! ## What a step can do to the memories -/

/-- What a step of an agent other than a reset can do to the two memories, by who writes them. -/
inductive MemEffect (s : State) : AgentStep → State → Prop where
  /-- Neither memory is written. -/
  | untouched {e : AgentStep} {t : State} (hmem : t.memories = s.memories) : MemEffect s e t
  /-- CRC16S4 appends its trailer (R90). -/
  | hostTrailer {e : AgentStep} {t : State} (w : OpWord) (len : BitVec 16) (addr : BitVec 32)
      (hword : s.acceptedWord e = some w) (hdecode : decode w = .ok (.crc16s4 len addr))
      (hcap : addr.toNat + len.toNat + 8 ≤ s.params.bounceCap)
      (hbuf : CopyChanges s t (addr.toNat + len.toNat) (addr.toNat + len.toNat + 8))
      (hhost : t.hostmem = s.hostmem) : MemEffect s e t
  /-- S2 appends its trailer (R113). -/
  | sendTrailer {t : State} (hphase : s.phase = .dataProg) (hcrc : s.cur.crc = true)
      (hbuf : CopyChanges s t s.cur.len (s.cur.len + 8)) (hhost : t.hostmem = s.hostmem) : MemEffect s .engine t
  /-- The copy-in (R131). -/
  | copyIn {t : State} (hphase : s.phase = .idle) (hstage : s.xseq.stage = .copyIn)
      (hcopies : s.copies .toCard = true) (hbuf : CopyChanges s t 0 s.bank0.len)
      (hhost : t.hostmem = s.hostmem) : MemEffect s .engine t
  /-- The copy-out (R133): `BUF` is changed by DMA steps inside the copy alone. -/
  | copyOut {t : State} (bytes : List Byte) (hphase : s.phase = .idle) (hstage : s.xseq.stage = .copyOut)
      (hcopies : s.copies .fromCard = true) (hbuf : ∀ a, Mem.read t.buf a ≠ Mem.read s.buf a → s.dmaReaches a)
      (hlen : bytes.length = s.bank0.len)
      (hhost : t.hostmem = Mem.writeBytes s.hostmem s.bank0.buf.toNat bytes) : MemEffect s .engine t
  /-- A DMA step from the card (R153). -/
  | dma {t : State} (i : Nat) (v : Byte) (hen : s.dmaEnabled i = true) (hdir : s.dmactl.dir = .fromCard)
      (hbuf : t.buf = Mem.write s.buf i v) (hhost : t.hostmem = s.hostmem) : MemEffect s (.dma i v) t
  /-- A host writes its own memory (R10). -/
  | hostWrite {t : State} (b : BitVec 32) (v : Byte) (hbuf : t.buf = s.buf)
      (hhost : t.hostmem = Mem.write s.hostmem b.toNat v) : MemEffect s (.hostWrite b v) t

/-- Everything an accepted word can do to the memories; the list of held words makes no difference. -/
theorem acceptWord_memEffect {s t : State} {e : AgentStep} {w : OpWord} (held : List OpWord)
    (hword : s.acceptedWord e = some w) (h : acceptWord w { s with waiting := held } = .next t) :
    MemEffect s e t := by
  cases hdecode : decode w with
  | error d =>
    rw [acceptWord_error hdecode] at h
    cases h
    exact .untouched rfl
  | ok i =>
    rw [acceptWord_ok hdecode] at h
    by_cases hi : ∃ len addr, i = .crc16s4 len addr
    · obtain ⟨len, addr, rfl⟩ := hi
      simp only [exec, execCrc16s4] at h
      split at h
      · cases h; exact .untouched rfl
      · split at h
        · cases h; exact .untouched rfl
        · cases h
          exact .hostTrailer w len addr hword hdecode (Nat.le_of_not_lt ‹_›)
            (State.appendTrailer_changes { s with waiting := held } addr.toNat len.toNat) rfl
    · exact .untouched (exec_memories (s := { s with waiting := held }) (fun len addr h' => hi ⟨len, addr, h'⟩) h)

theorem presentWord_memEffect {s t : State} {w : OpWord} (h : presentWord w s = .next t) :
    MemEffect s (.host w) t := by
  obtain ⟨-, hp⟩ | ⟨hfree, hp⟩ := presentWord_cases w s
  · cases hp.symm.trans h
    exact .untouched rfl
  · exact acceptWord_memEffect s.waiting (by simp [State.acceptedWord, hfree]) (hp.symm.trans h)

theorem acceptHeld_memEffect {s t : State} {k : Nat} (h : acceptHeld k s = .next t) :
    MemEffect s (.accept k) t := by
  unfold acceptHeld at h
  split at h
  · cases h; exact .untouched rfl
  · rename_i hfree
    split at h
    · rename_i hheld
      exact acceptWord_memEffect _ (by simp [State.acceptedWord, hfree, hheld]) h
    · cases h; exact .untouched rfl

theorem stepDataProg_memEffect {s : State} (hphase : s.phase = .dataProg) :
    MemEffect s .engine (stepDataProg s) := by
  cases hcrc : s.cur.crc
  · rw [stepDataProg_of_not_crc hcrc]
    exact .untouched rfl
  · rw [stepDataProg_of_crc hcrc]
    have hchanges := s.dataPathOff.appendTrailer_changes 0 s.cur.len
    rw [Nat.zero_add] at hchanges
    exact .sendTrailer hphase hcrc hchanges rfl

theorem copyIn_of_not_copies {s : State} (h : s.copies .toCard = false) : copyIn s = .next s := by
  simp [copyIn, h]

theorem copyOut_of_not_copies {s : State} (h : s.copies .fromCard = false) : copyOut s = .next s := by
  simp [copyOut, h]

/-- Behind its copy, `X_COPYIN` writes neither memory. -/
theorem stageCopyIn_inv {s t : State} (h : stageCopyIn s = .next t) :
    ∃ s1, copyIn s = .next s1 ∧ t.memories = s1.memories := by
  unfold stageCopyIn at h
  split at h
  · rename_i s1 hcopy
    cases h
    exact ⟨s1, hcopy, rfl⟩
  all_goals cases h

/-- Behind its copy, `X_COPYOUT` writes neither memory. -/
theorem stageCopyOut_inv {s t : State} (h : stageCopyOut s = .next t) :
    ∃ s1, copyOut s = .next s1 ∧ t.memories = s1.memories := by
  unfold stageCopyOut at h
  split at h
  · rename_i s1 hcopy
    cases h
    exact ⟨s1, hcopy, by split <;> rfl⟩
  all_goals cases h

theorem stageCopyIn_memEffect {s t : State} (hphase : s.phase = .idle) (hstage : s.xseq.stage = .copyIn)
    (h : stageCopyIn s = .next t) : MemEffect s .engine t := by
  obtain ⟨s1, hcopy, hmem⟩ := stageCopyIn_inv h
  obtain ⟨hbuf, hhost⟩ := (State.memories_eq_iff s1 t).mp hmem
  cases hcopies : s.copies .toCard
  · cases (copyIn_of_not_copies hcopies).symm.trans hcopy
    exact .untouched hmem
  · obtain hc | ⟨hc, -⟩ | hc | hc := copyIn_cases s <;> cases hc.symm.trans hcopy
    · exact .untouched hmem
    · exact .copyIn hphase hstage hcopies (State.writeBuf_changes hbuf (by simp)) hhost

theorem stageCopyOut_memEffect {s t : State} (hphase : s.phase = .idle) (hstage : s.xseq.stage = .copyOut)
    (h : stageCopyOut s = .next t) : MemEffect s .engine t := by
  obtain ⟨s1, hcopy, hmem⟩ := stageCopyOut_inv h
  obtain ⟨hbuf, hhost⟩ := (State.memories_eq_iff s1 t).mp hmem
  cases hcopies : s.copies .fromCard
  · cases (copyOut_of_not_copies hcopies).symm.trans hcopy
    exact .untouched hmem
  · obtain hc | ⟨hc, -⟩ | hc | hc := copyOut_cases s <;> cases hc.symm.trans hcopy
    · exact .untouched hmem
    · exact .copyOut _ hphase hstage hcopies (State.readBuf_changes hbuf) (s.readBuf_length _ _ _ _) hhost

theorem stageStep_memEffect {s t : State} (hphase : s.phase = .idle) (h : stageStep s = .next t) :
    MemEffect s .engine t := by
  unfold stageStep at h
  cases hstage : s.xseq.stage <;> rw [hstage] at h
  case copyIn => exact stageCopyIn_memEffect hphase hstage h
  case copyOut => exact stageCopyOut_memEffect hphase hstage h
  all_goals
    cases h
    exact .untouched (by simp)

theorem engineStep_memEffect {s t : State} (h : engineStep s = .next t) : MemEffect s .engine t := by
  unfold engineStep at h
  cases hphase : s.phase <;> rw [hphase] at h
  case idle => exact stageStep_memEffect hphase h
  case dataProg =>
    cases h
    exact stepDataProg_memEffect hphase
  all_goals
    cases h
    exact .untouched (by simp)

theorem dmaStep_memEffect {s t : State} {i : Nat} {v : Byte} (h : dmaStep i v s = .next t) :
    MemEffect s (.dma i v) t := by
  obtain hd | ⟨hd, hen, -, hdir⟩ | ⟨hd, -⟩ := dmaStep_cases i v s <;> cases hd.symm.trans h
  · exact .untouched rfl
  · exact .dma i v hen hdir rfl rfl

/-- Everything a step of any agent but a reset can do to the memories. -/
theorem agentStep_memEffect {s t : State} {e : AgentStep} (he : e.isReset = false)
    (h : agentStep e s = .next t) : MemEffect s e t := by
  cases e with
  | host w => exact presentWord_memEffect h
  | accept k => exact acceptHeld_memEffect h
  | engine => exact engineStep_memEffect h
  | dma i v => exact dmaStep_memEffect h
  | hostWrite b v => cases h; exact .hostWrite b v rfl rfl
  | reset d => cases he
  | isr => cases h; exact .untouched (isrStep_memories s)
  | bus acts => cases h; exact .untouched (busStep_memories acts s)
  | tick => cases h; exact .untouched (tickStep_memories s)
  | apply c => cases h; exact .untouched (applyStep_memories c s)
  | withdraw _ | duringCopy _ | card _ => cases h; exact .untouched rfl

/-- When the main command of a request copies to the card, by the bits of `CMD0_CTL` (R13). -/
theorem State.copies_toCard_iff (s : State) :
    s.copies .toCard = true ↔ s.bank0.ctl.getLsbD 3 = true ∧ s.bank0.ctl.getLsbD 4 = false := by
  simp only [State.copies, Bank.hasData, Bank.dir]
  cases s.bank0.ctl.getLsbD 3 <;> cases s.bank0.ctl.getLsbD 4 <;> decide

/-- When the main command of a request copies from the card, by the bits of `CMD0_CTL` (R13). -/
theorem State.copies_fromCard_iff (s : State) :
    s.copies .fromCard = true ↔ s.bank0.ctl.getLsbD 3 = true ∧ s.bank0.ctl.getLsbD 4 = true := by
  simp only [State.copies, Bank.hasData, Bank.dir]
  cases s.bank0.ctl.getLsbD 3 <;> cases s.bank0.ctl.getLsbD 4 <;> decide

theorem State.dmaEnabled_iff (s : State) (i : Nat) :
    s.dmaEnabled i = true ↔ s.dmactl.en = true ∧ i < s.dmalen.toNat := by
  simp [State.dmaEnabled, Nat.blt]

/-- A memory left as it is changes no byte. -/
theorem Mem.elim_of_read_ne {m m' : Mem} {a : Nat} {p : Prop} (hm : m' = m) (h : Mem.read m' a ≠ Mem.read m a) : p :=
  absurd (congrArg (Mem.read · a) hm) h

/-- A write changes the byte written and no other. -/
theorem Mem.eq_of_read_write_ne {m m' : Mem} {i a : Nat} {v : Byte} (hm : m' = Mem.write m i v)
    (h : Mem.read m' a ≠ Mem.read m a) : a = i := by
  subst hm
  by_contra ha
  exact h (Mem.read_write_other m i v a ha)

/-- A block of writes changes bytes of the block and no other. -/
theorem Mem.within_of_read_writeBytes_ne {m m' : Mem} {lo a n : Nat} {vs : List Byte}
    (hm : m' = Mem.writeBytes m lo vs) (hn : vs.length = n) (h : Mem.read m' a ≠ Mem.read m a) :
    lo ≤ a ∧ a < lo + n := by
  subst hm hn
  by_contra ha
  exact h (Mem.read_writeBytes_outside vs m lo a (by omega))

/-- Settles O58: by what the step does to the memories. -/
theorem memoryWriters : Obligations.MemoryWriters := by
  intro s t e he h
  cases agentStep_memEffect he h with
  | untouched hmem =>
    obtain ⟨hbuf, hhost⟩ := (State.memories_eq_iff s t).mp hmem
    exact ⟨fun a => Mem.elim_of_read_ne hbuf, fun a => Mem.elim_of_read_ne hhost⟩
  | hostTrailer w len addr hword hdecode hcap hbuf hhost =>
    refine ⟨fun a ha => ?_, fun a => Mem.elim_of_read_ne hhost⟩
    obtain ⟨hlo, hhi⟩ | ⟨hen, hdir, hlen, hmove⟩ := hbuf a ha
    · exact Or.inl ⟨w, len, addr, hword, hdecode, hlo, hhi, hhi.trans_le hcap⟩
    · exact Or.inr (Or.inr (Or.inr ⟨hen, hdir, hlen,
        Or.inr ⟨hmove, Or.inl ⟨w, len, addr, hword, hdecode⟩⟩⟩))
  | sendTrailer hphase hcrc hbuf hhost =>
    refine ⟨fun a ha => ?_, fun a => Mem.elim_of_read_ne hhost⟩
    obtain ⟨hlo, hhi⟩ | ⟨hen, hdir, hlen, hmove⟩ := hbuf a ha
    · exact Or.inr (Or.inl ⟨rfl, hphase, hcrc, hlo, hhi⟩)
    · exact Or.inr (Or.inr (Or.inr ⟨hen, hdir, hlen, Or.inr ⟨hmove, Or.inr (Or.inl ⟨rfl, hphase, hcrc⟩)⟩⟩))
  | copyIn hphase hstage hcopies hbuf hhost =>
    obtain ⟨hdata, hbit⟩ := s.copies_toCard_iff.mp hcopies
    refine ⟨fun a ha => ?_, fun a => Mem.elim_of_read_ne hhost⟩
    obtain ⟨-, hhi⟩ | ⟨hen, hdir, hlen, hmove⟩ := hbuf a ha
    · exact Or.inr (Or.inr (Or.inl ⟨rfl, hphase, hstage, hdata, hbit, hhi⟩))
    · exact Or.inr (Or.inr (Or.inr ⟨hen, hdir, hlen,
        Or.inr ⟨hmove, Or.inr (Or.inr ⟨rfl, hphase, Or.inl hstage⟩)⟩⟩))
  | copyOut bytes hphase hstage hcopies hbuf hbytes hhost =>
    obtain ⟨hdata, hbit⟩ := s.copies_fromCard_iff.mp hcopies
    refine ⟨fun a ha => ?_, fun a ha => ?_⟩
    · obtain ⟨hen, hdir, hlen, hmove⟩ := hbuf a ha
      exact Or.inr (Or.inr (Or.inr ⟨hen, hdir, hlen,
        Or.inr ⟨hmove, Or.inr (Or.inr ⟨rfl, hphase, Or.inr hstage⟩)⟩⟩))
    · exact Or.inr ⟨rfl, hphase, hstage, hdata, hbit, Mem.within_of_read_writeBytes_ne hhost hbytes ha⟩
  | dma i v hen hdir hbuf hhost =>
    refine ⟨fun a ha => ?_, fun a => Mem.elim_of_read_ne hhost⟩
    obtain rfl := Mem.eq_of_read_write_ne hbuf ha
    obtain ⟨hon, hlen⟩ := (s.dmaEnabled_iff a).mp hen
    exact Or.inr (Or.inr (Or.inr ⟨hon, hdir, hlen, Or.inl ⟨v, rfl⟩⟩))
  | hostWrite b v hbuf hhost =>
    exact ⟨fun a => Mem.elim_of_read_ne hbuf, fun a ha => Or.inl ⟨b, v, rfl, Mem.eq_of_read_write_ne hhost ha⟩⟩

end Sys2Proof.Machine
end

section
/-! SUPPORT. The lanes of the codec (R85 to R87): the bits of a lane by position, and the CRC through packed lane bytes
as one fold over those bits. -/

namespace Sys2Proof.Machine

open Sys2Proof

/-! ## The bits of a lane (R85) -/

@[simp] theorem laneBits_cons (k : Nat) (b : Byte) (bytes : List Byte) :
    laneBits k (b :: bytes) = b.getLsbD (k + 4) :: b.getLsbD k :: laneBits k bytes := rfl

@[simp] theorem laneBits_length (k : Nat) (bytes : List Byte) : (laneBits k bytes).length = 2 * bytes.length := by
  induction bytes with
  | nil => rfl
  | cons b bytes ih => simp [ih]; omega

/-- The bit at position `2n` of a lane is bit `k + 4` of byte `n`. -/
theorem laneBits_getElem?_even (k : Nat) (bytes : List Byte) (n : Nat) :
    (laneBits k bytes)[2 * n]? = bytes[n]?.map (·.getLsbD (k + 4)) := by
  induction bytes generalizing n with
  | nil => rfl
  | cons b bytes ih => cases n with
    | zero => rfl
    | succ n => exact ih n

/-- The bit at position `2n + 1` of a lane is bit `k` of byte `n`. -/
theorem laneBits_getElem?_odd (k : Nat) (bytes : List Byte) (n : Nat) :
    (laneBits k bytes)[2 * n + 1]? = bytes[n]?.map (·.getLsbD k) := by
  induction bytes generalizing n with
  | nil => rfl
  | cons b bytes ih => cases n with
    | zero => rfl
    | succ n => exact ih n

/-- A lane is known from its bits: if byte `j` carries `g (2j)` in bit `k + 4` and `g (2j + 1)` in bit `k`, the lane is
`g 0, g 1, …`. -/
theorem laneBits_eq_map_range {k : Nat} {bytes : List Byte} {g : Nat → Bool}
    (h : ∀ j (hj : j < bytes.length), bytes[j].getLsbD (k + 4) = g (2 * j) ∧ bytes[j].getLsbD k = g (2 * j + 1)) :
    laneBits k bytes = (List.range (2 * bytes.length)).map g := by
  refine List.ext_getElem? fun i => ?_
  obtain ⟨j, rfl | rfl⟩ := i.even_or_odd'
  · rw [laneBits_getElem?_even]
    by_cases hj : j < bytes.length
    · simp [hj, h j hj]
    · simp [hj]
  · have hlt : 2 * j + 1 < 2 * bytes.length ↔ j < bytes.length := by omega
    rw [laneBits_getElem?_odd]
    by_cases hj : j < bytes.length
    · simp [hj, hlt, h j hj]
    · simp [hj, hlt]

/-! ## Packed lane bytes (R86) -/

/-- After `n` bits are shifted into an empty byte, the last of them is in bit 0 and the one before it in bit 1. -/
theorem getElem_shiftIn (f : Nat → Bool) (n : Nat) {j : Nat} (hj : j < 8) :
    ((List.range n).foldl (fun (v : Byte) i => v <<< 1 ||| (BitVec.ofBool (f i)).setWidth 8) 0#8)[j] =
      (decide (j < n) && f (n - 1 - j)) := by
  induction n generalizing j with
  | zero => simp
  | succ n ih =>
    rw [List.range_succ, List.foldl_append]
    cases j with
    | zero => simp
    | succ j => simp [ih (Nat.lt_of_succ_lt hj), Nat.sub_sub, Nat.add_comm]

theorem packByte_getLsbD (bits : List Bool) {i : Nat} (hi : i < 8) :
    (packByte bits).getLsbD (7 - i) = bits.getD i false := by
  have hlt : 7 - i < 8 := by omega
  have hsub : 8 - 1 - (7 - i) = i := by omega
  rw [packByte, BitVec.getLsbD_eq_getElem hlt, getElem_shiftIn (bits.getD · false) 8 hlt, hsub, decide_eq_true hlt,
    Bool.true_and]

@[simp] theorem topBits_length (data : Byte) (n : Nat) : (topBits data n).length = n := by simp [topBits]

/-- Unpacking the top bits of a packed byte gives the bits packed. -/
theorem topBits_packByte {bits : List Bool} (h : bits.length ≤ 8) : topBits (packByte bits) bits.length = bits := by
  refine List.ext_getElem (topBits_length _ _) fun i _ hi => ?_
  simp [topBits, packByte_getLsbD bits (hi.trans_le h), hi]

/-- A CRC16 step over a packed byte is the fold over the bits packed. -/
theorem crc16Step_packByte (c : BitVec 16) {bits : List Bool} (h : bits.length ≤ 8) :
    crc16Step c (packByte bits) bits.length = bits.foldl crc16Bit c := by
  rw [crc16Step, topBits_packByte h]

/-- The CRC through packed bytes, with a partial last step, is the fold over the bits (R87). -/
theorem packedCrcFrom_eq_foldl {fuel : Nat} {bits : List Bool} (h : bits.length ≤ fuel) (c : BitVec 16) :
    packedCrcFrom fuel c bits = bits.foldl crc16Bit c := by
  induction fuel generalizing bits c with
  | zero => rw [List.length_eq_zero_iff.mp (Nat.le_zero.mp h)]; rfl
  | succ fuel ih =>
    rw [packedCrcFrom]
    split
    next hnil => rw [hnil]; rfl
    next hnil =>
      have hpos := List.length_pos_iff.mpr hnil
      have hstep := crc16Step_packByte c (bits.length_take_le 8)
      rw [List.length_take, Nat.min_comm] at hstep
      rw [ih (by rw [List.length_drop]; omega), hstep, ← List.foldl_append, List.take_append_drop]

theorem laneCrc_eq_packed (k : Nat) (bytes : List Byte) : laneCrc k bytes = laneCrcPacked k bytes :=
  (packedCrcFrom_eq_foldl le_rfl _).symm

/-- Settles O12: the bits of a lane by position, and the packed CRC as the fold over them. -/
theorem laneCrcs : Obligations.LaneCrcs := fun k bytes =>
  ⟨laneBits_length k bytes,
    fun n h => ⟨by rw [laneBits_getElem?_even, List.getElem?_eq_getElem h]; rfl,
      by rw [laneBits_getElem?_odd, List.getElem?_eq_getElem h]; rfl⟩,
    packedCrcFrom_eq_foldl le_rfl _, laneCrc_eq_packed k bytes⟩

end Sys2Proof.Machine
end

section
/-! SUPPORT. The bits of the 4-lane trailer (R88, R89). -/

namespace Sys2Proof.Machine

open Sys2Proof

/-- Byte `j` of a trailer carries bit `14 - 2j` of each lane's CRC in its low half and bit `15 - 2j` in its
high half (R88). -/
theorem trailerByte_bit (C : Nat → BitVec 16) (j : Nat) {i : Nat} (hi : i < 8) :
    (trailerByte (C 0) (C 1) (C 2) (C 3) j).getLsbD i =
      if i < 4 then (C i).getLsbD (14 - 2 * j) else (C (i - 4)).getLsbD (15 - 2 * j) := by
  unfold trailerByte
  change BitVec.getLsbD (w := 1 + 1 + 1 + 1 + 1 + 1 + 1 + 1) _ i = _
  simp only [BitVec.getLsbD_append, BitVec.getLsbD_ofBool]
  interval_cases i <;> rfl

theorem s4Trailer_getElem (bytes : List Byte) {j : Nat} (hj : j < (s4Trailer bytes).length) :
    (s4Trailer bytes)[j] =
      trailerByte (laneCrc 0 bytes) (laneCrc 1 bytes) (laneCrc 2 bytes) (laneCrc 3 bytes) j := by
  simp [s4Trailer]

theorem s4Trailer_getElem_getLsbD (bytes : List Byte) {j k : Nat} (hj : j < (s4Trailer bytes).length) (hk : k < 4) :
    (s4Trailer bytes)[j].getLsbD (k + 4) = (laneCrc k bytes).getLsbD (15 - 2 * j) ∧
    (s4Trailer bytes)[j].getLsbD k = (laneCrc k bytes).getLsbD (14 - 2 * j) := by
  have hbit := fun i hi => trailerByte_bit (laneCrc · bytes) j (i := i) hi
  rw [s4Trailer_getElem, hbit (k + 4) (by omega), hbit k (by omega)]
  simp [hk]

/-- De-interleaving the trailer gives the bits of each lane's CRC, bit 15 first (R88). -/
theorem laneBits_s4Trailer (bytes : List Byte) {k : Nat} (hk : k < 4) :
    laneBits k (s4Trailer bytes) = (List.range 16).map fun i => (laneCrc k bytes).getLsbD (15 - i) := by
  have h := laneBits_eq_map_range (g := fun i => (laneCrc k bytes).getLsbD (15 - i)) fun j hj => by
    have hodd : 15 - (2 * j + 1) = 14 - 2 * j := by omega
    simpa only [hodd] using s4Trailer_getElem_getLsbD bytes hj hk
  simpa [Config.trailerBytes] using h

/-- Settles O13: the trailer's bytes bit by bit, and the lane they make. -/
theorem trailerLayout : Obligations.TrailerLayout := by
  intro bytes k hk
  refine ⟨s4Trailer_length bytes, fun j hj => ?_, laneBits_s4Trailer bytes hk⟩
  have hj' : j < (s4Trailer bytes).length := by rwa [s4Trailer_length]
  rw [List.getD_eq_getElem _ _ hj']
  exact s4Trailer_getElem_getLsbD bytes hj' hk

end Sys2Proof.Machine
end

section
/-! SUPPORT. The fields of a descriptor by the bits of its registers (R13, R15), and the lengths made of them (R127). -/

namespace Sys2Proof.Machine

open Sys2Proof

theorem Bank.valid_eq (b : Bank) : b.valid = b.ctl.getLsbD 0 := rfl

theorem Bank.hasData_eq (b : Bank) : b.hasData = b.ctl.getLsbD 3 := rfl

theorem Bank.blksize_eq_mod (b : Bank) : b.blksize = b.blk.toNat % 2 ^ 16 := by
  simp [Bank.blksize]

theorem Bank.blkcnt_eq_div (b : Bank) : b.blkcnt = b.blk.toNat / 2 ^ 16 := by
  have hlt := b.blk.isLt
  simp only [Bank.blkcnt, BitVec.extractLsb'_toNat, Nat.shiftRight_eq_div_pow]
  omega

theorem Bank.dir_eq_toCard_iff (b : Bank) : b.dir = .toCard ↔ b.ctl.getLsbD 4 = false := by
  unfold Bank.dir
  cases b.ctl.getLsbD 4 <;> simp

theorem Bank.mode_eq_stream_iff (b : Bank) : b.mode = .stream ↔ b.ctl.getLsbD 5 = true := by
  unfold Bank.mode
  cases b.ctl.getLsbD 5 <;> simp

theorem Bank.len_of_no_data {b : Bank} (h : b.ctl.getLsbD 3 = false) : b.len = 0 := by
  rw [Bank.len, b.hasData_eq, h, if_neg Bool.false_ne_true]

theorem Bank.len_of_data {b : Bank} (h : b.ctl.getLsbD 3 = true) : b.len = b.blkcnt * b.blksize := by
  rw [Bank.len, b.hasData_eq, if_pos h]

/-- When a trailer is due (R127): one stream block to the card, not over the ceiling. -/
theorem Bank.crc_iff (b : Bank) :
    b.crc = true ↔ b.ctl.getLsbD 3 = true ∧ b.ctl.getLsbD 5 = true ∧ b.ctl.getLsbD 4 = false ∧ b.blkcnt = 1 ∧
      b.len ≤ 512 := by
  simp only [Bank.crc, Bool.and_eq_true, beq_iff_eq, Nat.ble_eq, b.hasData_eq, b.dir_eq_toCard_iff,
    b.mode_eq_stream_iff, Config.s4Ceiling, and_assoc]

theorem Bank.effLen_of_crc {b : Bank} (h : b.crc = true) : b.effLen = b.len + 8 := by
  simp [Bank.effLen, h, Config.trailerBytes]

theorem Bank.effLen_of_not_crc {b : Bank} (h : b.crc = false) : b.effLen = b.len := by
  simp [Bank.effLen, h]

theorem Bank.effBlk_of_crc {b : Bank} (h : b.crc = true) : b.effBlk = b.blksize + 8 := by
  simp [Bank.effBlk, h, Config.trailerBytes]

theorem Bank.effBlk_of_not_crc {b : Bank} (h : b.crc = false) : b.effBlk = b.blksize := by
  simp [Bank.effBlk, h]

/-- Settles O22: without data no trailer is due; with data by whether one is. -/
theorem effectiveLength : Obligations.EffectiveLength := by
  refine ⟨fun b => ⟨b.blksize_eq_mod, b.blkcnt_eq_div, fun hno => ?_, fun hdata => ?_⟩, rfl, rfl, rfl, rfl⟩
  · have hcrc : b.crc = false := Bool.eq_false_iff.mpr fun hdue =>
      Bool.false_ne_true (hno.symm.trans (b.crc_iff.mp hdue).1)
    exact ⟨Bank.len_of_no_data hno, hcrc, (Bank.effLen_of_not_crc hcrc).trans (Bank.len_of_no_data hno),
      Bank.effBlk_of_not_crc hcrc⟩
  · have hlen := Bank.len_of_data hdata
    have hiff := b.crc_iff
    simp only [hdata, hlen, true_and] at hiff
    refine ⟨hlen, ?_⟩
    split
    next hdue =>
      have hcrc := hiff.mpr hdue
      exact ⟨hcrc, hlen ▸ Bank.effLen_of_crc hcrc, Bank.effBlk_of_crc hcrc⟩
    next hdue =>
      have hcrc := Bool.eq_false_iff.mpr (mt hiff.mp hdue)
      exact ⟨hcrc, hlen ▸ Bank.effLen_of_not_crc hcrc, Bank.effBlk_of_not_crc hcrc⟩

/-! ## The response kind (R13, R126) -/

theorem Bank.rk_eq_long_iff (b : Bank) : b.rk = .long ↔ b.ctl.extractLsb' 1 2 = 3#2 := by
  unfold Bank.rk
  generalize b.ctl.extractLsb' 1 2 = v
  revert v
  decide

theorem Bank.rk_eq_shortNoCrc_iff (b : Bank) : b.rk = .shortNoCrc ↔ b.ctl.extractLsb' 1 2 = 2#2 := by
  unfold Bank.rk
  generalize b.ctl.extractLsb' 1 2 = v
  revert v
  decide

/-- The selector of a bank's response kind, by the bits of the kind. -/
theorem Bank.rspSel_rk (b : Bank) :
    rspSel b.rk = if b.ctl.extractLsb' 1 2 = 0#2 then 0#2 else if b.ctl.extractLsb' 1 2 = 3#2 then 3#2 else 1#2 := by
  unfold Bank.rk
  generalize b.ctl.extractLsb' 1 2 = v
  revert v
  decide

end Sys2Proof.Machine
end

section
/-! SUPPORT. What ENGINE does in each phase (R136), and the micro-steps of SEND as equations of states. -/

namespace Sys2Proof.Machine

open Sys2Proof

/-! ## The step of ENGINE by the phase and the stage (R136) -/

section

variable {s : State}

theorem agentStep_engine_evtReset (h : s.phase = .evtReset) : agentStep .engine s = .next (stepEvtReset s) := by
  simp only [agentStep, engineStep, h]

theorem agentStep_engine_dmaArm (h : s.phase = .dmaArm) : agentStep .engine s = .next (stepDmaArm s) := by
  simp only [agentStep, engineStep, h]

theorem agentStep_engine_setPend (h : s.phase = .setPend) : agentStep .engine s = .next (stepSetPend s) := by
  simp only [agentStep, engineStep, h]

theorem agentStep_engine_irqEn (h : s.phase = .irqEn) : agentStep .engine s = .next (stepIrqEn s) := by
  simp only [agentStep, engineStep, h]

theorem agentStep_engine_cmdStart (h : s.phase = .cmdStart) : agentStep .engine s = .next (stepCmdStart s) := by
  simp only [agentStep, engineStep, h]

theorem agentStep_engine_wait (h : s.phase = .wait) : agentStep .engine s = .next (stepWait s) := by
  simp only [agentStep, engineStep, h]

theorem agentStep_engine_classify (h : s.phase = .classify) : agentStep .engine s = .next (stepClassify s) := by
  simp only [agentStep, engineStep, h]

theorem agentStep_engine_drainExit (h : s.phase = .drainExit) : agentStep .engine s = .next (stepDrainExit s) := by
  simp only [agentStep, engineStep, h]

theorem agentStep_engine_cleanup (h : s.phase = .cleanup) : agentStep .engine s = .next (stepCleanup s) := by
  simp only [agentStep, engineStep, h]

theorem agentStep_engine_recovOff (h : s.phase = .recovOff) : agentStep .engine s = .next (stepRecovOff s) := by
  simp only [agentStep, engineStep, h]

theorem agentStep_engine_recovOn (h : s.phase = .recovOn) : agentStep .engine s = .next (stepRecovOn s) := by
  simp only [agentStep, engineStep, h]

theorem agentStep_engine_copyIn (h : s.phase = .idle) (hstage : s.xseq.stage = .copyIn) :
    agentStep .engine s = stageCopyIn s := by
  simp only [agentStep, engineStep, stageStep, h, hstage]

theorem agentStep_engine_copyOut (h : s.phase = .idle) (hstage : s.xseq.stage = .copyOut) :
    agentStep .engine s = stageCopyOut s := by
  simp only [agentStep, engineStep, stageStep, h, hstage]

theorem agentStep_engine_release (h : s.phase = .idle) (hstage : s.xseq.stage = .release) :
    agentStep .engine s = .next (stageRelease s) := by
  simp only [agentStep, engineStep, stageStep, h, hstage]

end

/-! ## The current slot and its bank -/

theorem State.cs_of_direct {s : State} (h : s.xseq.direct = true) : s.cs = s.xseq.dslot := by
  simp [State.cs, h]

theorem State.cs_of_main {s : State} (h : s.xseq.direct = false) (hstage : s.xseq.stage = .main) : s.cs = .main := by
  simp [State.cs, h, hstage]

theorem State.cs_of_not_main {s : State} (h : s.xseq.direct = false) (hstage : s.xseq.stage ≠ .main) :
    s.cs = .stop := by
  simp [State.cs, h, hstage]

/-- Everything the replacement of a bank changes. -/
theorem State.setBank_record (s : State) (c : Slot) (b : Bank) :
    s.setBank c b = { s with
      bank0 := if c = .main then b else s.bank0, bank1 := if c = .stop then b else s.bank1 } := by
  cases c <;> rfl

/-! ## S1 to S6 (R112 to R117) -/

/-- Everything S1 changes (R112). -/
theorem stepEvtReset_record (s : State) :
    stepEvtReset s = { s.setBank s.cs { s.cur with err := ⟨.success, .success⟩ } with
      evtSet := false, evtst := 0#32, phase := if s.cur.hasData then .dataProg else .setPend } := by
  simp only [stepEvtReset, State.setCur, State.setBank_record]
  rfl

/-- Settles O24: the current slot by its three cases, and S1. -/
theorem stepEvtReset_holds : Obligations.StepEvtReset := fun s =>
  ⟨State.cs_of_direct, State.cs_of_main, State.cs_of_not_main, fun hphase => by
    rw [agentStep_engine_evtReset hphase, stepEvtReset_record]
    rfl⟩

/-- Settles O26: the width by the mode. -/
theorem stepDmaArm_holds : Obligations.StepDmaArm := by
  intro s hphase
  rw [agentStep_engine_dmaArm hphase]
  cases hmode : (s.bank s.cs).mode
  · simp only [stepDmaArm, hmode]; rfl
  · simp only [stepDmaArm, hmode]; rfl

/-- Settles O27: the step writes the current slot, whose definition the statement writes out. -/
theorem stepSetPend_holds : Obligations.StepSetPend := fun _ => agentStep_engine_setPend

/-- Writing implemented bits alone, `IEN` takes the value as it is (R24). -/
theorem State.setIen_of_implemented (s : State) {v : Word} (h : v &&& irqBits = v) :
    s.setIen v = { s with ien := v } := by
  rw [State.setIen, h]

/-- S5 sets implemented bits of `IEN` alone (R24, R116). -/
theorem sendEnables_implemented (ien : Word) (hasData : Bool) :
    sendEnables ien hasData &&& irqBits = sendEnables ien hasData := by
  simp only [sendEnables, BitVec.and_or_distrib_right, BitVec.and_assoc]
  cases hasData <;> rfl

/-- Settles O28: every enable that S5 sets is implemented. -/
theorem stepIrqEn_holds : Obligations.StepIrqEn := by
  intro s hphase
  rw [agentStep_engine_irqEn hphase, stepIrqEn, s.setIen_of_implemented (sendEnables_implemented _ _)]
  rfl

/-- The fields of a `CMDREG` value put together (R26). -/
theorem cmdreg_fields (start : Bool) (sel : BitVec 2) (idx : BitVec 6) {r : BitVec 9}
    (h : r = bit start ++ sel ++ idx) :
    r.getLsbD 8 = start ∧ r.extractLsb' 0 6 = idx ∧ r.extractLsb' 6 2 = sel := by
  subst h
  refine ⟨?_, BitVec.extractLsb'_append_eq_right, ?_⟩
  · change BitVec.getLsbD (w := 1 + 2 + 6) _ 8 = start
    rw [BitVec.getLsbD_append, BitVec.getLsbD_append, BitVec.getLsbD_ofBool]
    rfl
  · exact (BitVec.extractLsb'_append_eq_of_le le_rfl).trans BitVec.extractLsb'_append_eq_right

/-- Settles O29: the fields of `CMDREG`, and the selector of the response kind. -/
theorem stepCmdStart_holds : Obligations.StepCmdStart := by
  intro s hphase
  obtain ⟨hstart, hidx, hsel⟩ := cmdreg_fields true (rspSel s.cur.rk) s.cur.opc rfl
  exact ⟨_, agentStep_engine_cmdStart hphase, hstart, hidx, hsel.trans s.cur.rspSel_rk⟩

end Sys2Proof.Machine
end

section
/-! SUPPORT. The micro-steps of SEND from the wait to the end, and hard recovery (R118 to R123, R140 to R142). -/

namespace Sys2Proof.Machine

open Sys2Proof

/-- Settles O30: the event is tested before the ticks. -/
theorem stepWait_holds : Obligations.StepWait := by
  intro s hphase
  rw [agentStep_engine_wait hphase]
  obtain ⟨hset, h⟩ | ⟨hclear, hticks, h⟩ | ⟨hclear, hticks, h⟩ := stepWait_cases s <;> rw [h]
  · exact ⟨fun _ => rfl, by simp [hset], by simp [hset]⟩
  · exact ⟨by simp [hclear], fun _ _ => rfl, fun _ hlt => absurd hlt (Nat.not_lt.mpr hticks)⟩
  · exact ⟨by simp [hclear], fun _ hle => absurd hle (Nat.not_le.mpr hticks), fun _ _ => rfl⟩

/-- The command error of a status value, by the bits of the response kind (R120). -/
theorem classifyCmd_rk (st : Word) (b : Bank) :
    classifyCmd st b.rk =
      if st.getLsbD 2 then .commandTimeout
      else if st.getLsbD 0 = true ∧ b.ctl.extractLsb' 1 2 ≠ 2#2 then .commandCrcError
      else .success := by
  simp only [classifyCmd, bCtimeout, bCcrcFail, Bool.and_eq_true, bne_iff_ne, ne_eq, b.rk_eq_shortNoCrc_iff]

/-- Everything S8 does to the bank of the current slot (R119, R120), by the bits of its control word. -/
theorem Bank.classify_takeResponse (b : Bank) (st w0 w1 w2 w3 : Word) :
    (b.takeResponse w0 w1 w2 w3).classify st = { b with
      resp0 := w0,
      resp1 := if b.ctl.extractLsb' 1 2 = 3#2 then w1 else b.resp1,
      resp2 := if b.ctl.extractLsb' 1 2 = 3#2 then w2 else b.resp2,
      resp3 := if b.ctl.extractLsb' 1 2 = 3#2 then w3 else b.resp3,
      err := {
        cmdErr := classifyCmd st b.rk,
        dataErr := if b.ctl.getLsbD 3 = false then b.err.dataErr else classifyData st } } := by
  have hdata : (if b.hasData then classifyData st else b.err.dataErr) =
      if b.ctl.getLsbD 3 = false then b.err.dataErr else classifyData st := by
    rw [b.hasData_eq]
    cases b.ctl.getLsbD 3 <;> rfl
  rw [← hdata]
  simp only [← b.rk_eq_long_iff, Bank.takeResponse]
  split <;> rfl

/-- Everything S8 changes (R119, R120). -/
theorem stepClassify_record (s : State) :
    stepClassify s = { s.setBank s.cs ((s.cur.takeResponse s.hwresp0 s.hwresp1 s.hwresp2 s.hwresp3).classify s.st) with
      spin := if s.cur.hasData then s.params.drainSpinMax else s.spin,
      phase := if s.cur.hasData then .drain else .cleanup } := by
  unfold stepClassify
  cases s.cur.hasData <;> simp [State.setCur, State.setPhase]

/-- Settles O31: the bank of the current slot after S8, and what follows. -/
theorem stepClassify_holds : Obligations.StepClassify := by
  intro s hphase
  rw [agentStep_engine_classify hphase, stepClassify_record, Bank.classify_takeResponse, classifyCmd_rk]
  rfl

/-- Settles O34: by whether the drain failed. -/
theorem stepDrainExit_holds : Obligations.StepDrainExit := by
  intro s hphase
  rw [agentStep_engine_drainExit hphase, stepDrainExit]
  refine ⟨fun hfail => ?_, fun hfail => ?_⟩
  · rw [if_pos hfail, State.raiseCmd, State.setBank_record, State.setBank_record]
    rfl
  · rw [if_neg (Bool.eq_false_iff.mp hfail)]
    rfl

/-- A value with no bit outside a mask keeps its value under the mask. -/
theorem and_mask_eq_self {x m : Word} (h : x &&& ~~~m = 0#32) : x &&& m = x :=
  calc x &&& m = x &&& m ||| x &&& ~~~m := by rw [h, BitVec.or_zero]
    _ = x := by rw [← BitVec.and_or_distrib_left, BitVec.or_not_self, BitVec.and_allOnes]

/-- `CMDs_ERR` as a number (R17). -/
theorem ErrSlot.word_toNat (e : ErrSlot) : e.word.toNat = e.cmdErr.num.toNat + 256 * e.dataErr.num.toNat := by
  have hcmd := e.cmdErr.num.isLt
  rw [ErrSlot.word, BitVec.toNat_append, BitVec.toNat_append, ← Nat.shiftLeft_add_eq_or_of_lt hcmd]
  simp [Nat.shiftLeft_eq]
  omega

/-- Settles O35: who called SEND, and for EXEC which command it was. -/
theorem stepCleanup_holds : Obligations.StepCleanup := by
  intro s hphase hien
  have hkeep : s.ien &&& ~~~errMask &&& irqBits = s.ien &&& ~~~errMask := by
    rw [BitVec.and_assoc, BitVec.and_comm (~~~errMask), ← BitVec.and_assoc, and_mask_eq_self (m := irqBits) hien]
  rw [agentStep_engine_cleanup hphase]
  simp only [stepCleanup, s.setIen_of_implemented hkeep]
  refine ⟨fun hdirect => ?_, fun hexec => ?_⟩
  · rw [if_pos hdirect]
    refine ⟨s.cur.err.word.setWidth 64, rfl, ?_⟩
    rw [BitVec.toNat_setWidth_of_le (by omega), ErrSlot.word_toNat]
  · rw [if_neg (Bool.eq_false_iff.mp hexec)]
    split <;> rfl

theorem State.insideSend_iff (s : State) :
    s.insideSend = true ↔ s.xseq.direct = true ∨ s.xseq.stage = .main ∨ s.xseq.stage = .stop := by
  simp [State.insideSend, or_assoc]

/-- Settles O43: the two writes, and by whether RECOVER or SEND came to them. -/
theorem recoverRuns : Obligations.RecoverRuns := by
  intro s
  refine ⟨rfl, agentStep_engine_recovOff, fun hphase => ?_⟩
  rw [agentStep_engine_recovOn hphase, ← s.insideSend_iff, stepRecovOn]
  refine ⟨fun hsend => ?_, fun hrecover => ?_⟩
  · rw [if_pos hsend]; rfl
  · rw [if_neg hrecover]; rfl

end Sys2Proof.Machine
end

section
/-! SUPPORT. The stages of EXEC (R131, R133, R135): the two copies of a valid request, byte by byte. -/

namespace Sys2Proof.Machine

open Sys2Proof

/-- Settles O41: the port is released before the pulse and the result are put out. -/
theorem stageRelease_holds : Obligations.StageRelease := fun _ => agentStep_engine_release

/-- The data of a valid request fits in both memories (R46, R47, R130). -/
theorem State.data_fits_of_valid {s : State} (h : ¬invalidRequest s) (hvalid : s.bank0.ctl.getLsbD 0 = true)
    (hdata : s.bank0.ctl.getLsbD 3 = true) :
    inHostMem s.bank0.buf.toNat s.bank0.len = true ∧ s.inBuf 0 s.bank0.len = true := by
  have hlimits := fun hbad => h (.inr (.inr ⟨hvalid, hdata, hbad⟩))
  simp only [inHostMem, State.inBuf, Nat.ble_eq, Bank.len_of_data hdata, Nat.zero_add]
  exact ⟨Nat.le_of_not_lt fun hlt => hlimits (.inr (.inr (.inr hlt))),
    Nat.le_of_not_lt fun hlt => hlimits (.inl hlt)⟩

/-! ## The copy-in -/

/-- A valid request with data to the card is copied whole. -/
theorem copyIn_of_valid {s : State} (h : ¬invalidRequest s) (hvalid : s.bank0.ctl.getLsbD 0 = true)
    (hcopies : s.copies .toCard = true) :
    copyIn s = .next { s with
      buf := s.writeBuf s.duringCopy 0 (Mem.readBytes s.hostmem s.bank0.buf.toNat s.bank0.len) s.buf,
      duringCopy := [] } := by
  obtain ⟨hhost, hbuf⟩ := State.data_fits_of_valid h hvalid (s.copies_toCard_iff.mp hcopies).1
  simp [copyIn, Bank.valid_eq, hvalid, hcopies, hhost, hbuf]

/-- Without a main command with data to the card there is nothing to copy in. -/
theorem copyIn_of_nothing_due {s : State} (h : ¬(s.bank0.ctl.getLsbD 0 = true ∧ s.copies .toCard = true)) :
    copyIn s = .next s := by
  rw [← Bool.and_eq_true] at h
  exact if_neg h

/-- What `X_COPYIN` does behind its copy: the first command that is present is next. -/
theorem stageCopyIn_of_copyIn {s t : State} (h : copyIn s = .next t) :
    stageCopyIn s = .next { t with
      xseq := { t.xseq with stage := if s.bank0.valid then .main else .stop }, phase := .evtReset } := by
  simp only [stageCopyIn, h]
  rfl

/-- A byte of `BUF` after the copy-in of `n` bytes. -/
theorem State.read_copyIn (s : State) (n a : Nat) :
    Mem.read (s.writeBuf s.duringCopy 0 (Mem.readBytes s.hostmem s.bank0.buf.toNat n) s.buf) a =
      if a < n then s.landed (s.inside (a + 1) n) a (Mem.read s.hostmem (s.bank0.buf.toNat + a))
      else s.landed (s.inside 0 n) a (Mem.read s.buf a) := by
  simp only [State.read_writeBuf, Mem.readBytes_length, Nat.zero_le, true_and, Nat.zero_add, Nat.sub_zero]
  split
  next ha => rw [Mem.readBytes_getD _ _ _ _ ha, State.inside]
  next => rw [State.inside, List.drop_zero]

/-- Settles O39: by whether there is data to copy. -/
theorem stageCopyIn_holds : Obligations.StageCopyIn := by
  intro s copied hphase hstage hrequest hcopied
  rw [agentStep_engine_copyIn hphase hstage]
  rw [← State.copies_toCard_iff] at hcopied
  by_cases hc : copied
  · obtain ⟨hvalid, hcopies⟩ := hcopied.mp hc
    have hlen := Bank.len_of_data (s.copies_toCard_iff.mp hcopies).1
    refine ⟨_, stageCopyIn_of_copyIn (copyIn_of_valid hrequest hvalid hcopies), rfl, fun hno => absurd hc hno,
      fun _ => ⟨rfl, fun a => ?_⟩⟩
    rw [← hlen]
    exact s.read_copyIn s.bank0.len a
  · exact ⟨_, stageCopyIn_of_copyIn (copyIn_of_nothing_due (mt hcopied.mpr hc)), rfl,
      fun _ => ⟨rfl, fun _ => rfl⟩, fun hyes => absurd hyes hc⟩

/-! ## The copy-out -/

/-- A valid request with data from the card is copied whole. -/
theorem copyOut_of_valid {s : State} (h : ¬invalidRequest s) (hvalid : s.bank0.ctl.getLsbD 0 = true)
    (hcopies : s.copies .fromCard = true) :
    copyOut s = .next { s with
      hostmem := Mem.writeBytes s.hostmem s.bank0.buf.toNat (s.readBuf s.duringCopy 0 s.bank0.len s.buf).1,
      buf := (s.readBuf s.duringCopy 0 s.bank0.len s.buf).2,
      duringCopy := [] } := by
  obtain ⟨hhost, hbuf⟩ := State.data_fits_of_valid h hvalid (s.copies_fromCard_iff.mp hcopies).1
  simp [copyOut, hcopies, hhost, hbuf]

/-- What `X_COPYOUT` does behind its copy: the stop command is next where one is present. -/
theorem stageCopyOut_of_copyOut {s t : State} (h : copyOut s = .next t) (hphase : t.phase = .idle) :
    stageCopyOut s = .next { t with
      xseq := { t.xseq with stage := if s.bank1.valid then .stop else .release },
      phase := if s.bank1.valid then .evtReset else .idle } := by
  simp only [stageCopyOut, h]
  cases s.bank1.valid
  · rw [← hphase]; rfl
  · rfl

/-- A byte of `BUF` after the copy-out of `n` bytes. -/
theorem State.read_buf_copyOut (s : State) (n a : Nat) :
    Mem.read (s.readBuf s.duringCopy 0 n s.buf).2 a = s.landed (s.inside 0 n) a (Mem.read s.buf a) := by
  rw [State.readBuf_mem, State.read_dmaMoves, State.inside, List.drop_zero]

/-- A byte of the caller's buffer after the copy-out of `n` bytes. -/
theorem State.read_hostmem_copyOut (s : State) {n i : Nat} (hi : i < n) (a : Nat) :
    Mem.read (Mem.writeBytes s.hostmem a (s.readBuf s.duringCopy 0 n s.buf).1) (a + i) =
      s.landed (s.inside 0 (i + 1)) i (Mem.read s.buf i) := by
  rw [Mem.read_writeBytes, s.readBuf_length, if_pos (by omega), Nat.add_sub_cancel_left, s.readBuf_bytes]
  simp [hi, State.inside]

/-- Settles O40: by whether there is data to copy. -/
theorem stageCopyOut_holds : Obligations.StageCopyOut := by
  intro s copied hphase hstage hrequest hvalid hcopied
  rw [agentStep_engine_copyOut hphase hstage]
  rw [← State.copies_fromCard_iff] at hcopied
  by_cases hc : copied
  · have hcopies := hcopied.mp hc
    have hlen := Bank.len_of_data (s.copies_fromCard_iff.mp hcopies).1
    refine ⟨_, stageCopyOut_of_copyOut (copyOut_of_valid hrequest hvalid hcopies) hphase, rfl,
      fun hno => absurd hc hno, fun _ => ?_⟩
    rw [← hlen]
    exact ⟨rfl, s.read_buf_copyOut _, fun i hi => s.read_hostmem_copyOut hi _,
      fun a ha => Mem.read_writeBytes_outside _ _ _ _ (by rwa [s.readBuf_length])⟩
  · have hno := Bool.eq_false_iff.mpr (mt hcopied.mpr hc)
    exact ⟨_, stageCopyOut_of_copyOut (copyOut_of_not_copies hno) hphase, rfl,
      fun _ => ⟨rfl, fun _ => ⟨rfl, rfl⟩⟩, fun hyes => absurd hyes hc⟩

end Sys2Proof.Machine
end

section
/-! SUPPORT. The Bus Configuration State Machine (R160 to R165): when `apply` is refused, the values it writes, and that
writing them again changes nothing. -/

namespace Sys2Proof.Machine

open Sys2Proof

/-! ## The divider and the width (R162, R163) -/

theorem clampDiv_eq_min_max (d : Nat) : clampDiv d = min 257 (max 2 d) := by
  unfold clampDiv Config.divMin Config.divMax
  split
  · omega
  · split <;> omega

/-- The biased divider fits the eight bits of `CLKDIV`, so no bit of it is lost. -/
theorem newClkdiv_toNat (old : BitVec 8) (source target : Nat) :
    (newClkdiv old source target).toNat =
      if target = 0 then old.toNat else min 257 (max 2 (source / target)) - 2 := by
  rw [newClkdiv, clampDiv_eq_min_max, Config.divBias]
  split
  · rfl
  · rw [BitVec.toNat_ofNat, Nat.mod_eq_of_lt (by omega)]

/-- The new divider depends on the old one only where the old one is kept. -/
@[simp] theorem newClkdiv_newClkdiv (old : BitVec 8) (source target : Nat) :
    newClkdiv (newClkdiv old source target) source target = newClkdiv old source target := by
  by_cases ht : target = 0 <;> simp [newClkdiv, ht]

theorem widthCode_of_invalid {lines : Nat} (h : lines ≠ 1 ∧ lines ≠ 4 ∧ lines ≠ 8) : widthCode lines = none := by
  simp [widthCode, h]

theorem widthCode_of_valid {lines : Nat} (h : lines = 1 ∨ lines = 4 ∨ lines = 8) :
    widthCode lines = some (if lines = 1 then 0#2 else if lines = 4 then 1#2 else 2#2) := by
  obtain rfl | rfl | rfl := h <;> rfl

/-! ## The power (R164) -/

@[simp] theorem BusCfg.setPower_clkdiv (b : BusCfg) (p : Power) : (b.setPower p).clkdiv = b.clkdiv := by
  cases p <;> rfl

@[simp] theorem BusCfg.setPower_width (b : BusCfg) (p : Power) : (b.setPower p).width = b.width := by
  cases p <;> rfl

/-! ## The values of a whole `apply` -/

/-- `BUSCFG` after an `apply` that is not refused, for the code `w` of its width: divider, width, power (R162 to R164). -/
def BusCfg.configured (b : BusCfg) (c : BusConfig) (w : BitVec 2) : BusCfg :=
  ({ b with clkdiv := newClkdiv b.clkdiv c.source c.target, width := w } : BusCfg).setPower c.power

@[simp] theorem BusCfg.configured_clkdiv (b : BusCfg) (c : BusConfig) (w : BitVec 2) :
    (b.configured c w).clkdiv = newClkdiv b.clkdiv c.source c.target := by
  simp [BusCfg.configured]

@[simp] theorem BusCfg.configured_width (b : BusCfg) (c : BusConfig) (w : BitVec 2) :
    (b.configured c w).width = w := by
  simp [BusCfg.configured]

theorem BusCfg.configured_off (b : BusCfg) {c : BusConfig} (w : BitVec 2) (h : c.power = .off) :
    (b.configured c w).pwr = 0#2 ∧ (b.configured c w).clken = false ∧ (b.configured c w).hwgate = b.hwgate := by
  simp [BusCfg.configured, BusCfg.setPower, h]

theorem BusCfg.configured_up (b : BusCfg) {c : BusConfig} (w : BitVec 2) (h : c.power = .up) :
    (b.configured c w).pwr = 1#2 ∧ (b.configured c w).clken = b.clken ∧ (b.configured c w).hwgate = b.hwgate := by
  simp [BusCfg.configured, BusCfg.setPower, h]

theorem BusCfg.configured_on (b : BusCfg) {c : BusConfig} (w : BitVec 2) (h : c.power = .on) :
    (b.configured c w).pwr = 2#2 ∧ (b.configured c w).clken = true ∧ (b.configured c w).hwgate = true := by
  simp [BusCfg.configured, BusCfg.setPower, h]

/-- Each power mode writes fixed values or keeps the old ones, so a second write of it finds its own values. -/
@[simp] theorem BusCfg.configured_configured (b : BusCfg) (c : BusConfig) (w : BitVec 2) :
    (b.configured c w).configured c w = b.configured c w := by
  cases hp : c.power <;> simp [BusCfg.configured, BusCfg.setPower, hp]

/-! ## When `apply` is refused and what it writes (R160, R161, R163) -/

theorem applyStep_of_refused {c : BusConfig} {s : State}
    (h : s.ctl.busy = true ∨ c.source < Config.minSrcClock ∨ (c.lines ≠ 1 ∧ c.lines ≠ 4 ∧ c.lines ≠ 8)) :
    applyStep c s = s := by
  obtain hbusy | hsource | hlines := h
  · simp [applyStep, hbusy]
  · simp [applyStep, hsource]
  · simp [applyStep, widthCode_of_invalid hlines]

theorem applyStep_of_accepted {c : BusConfig} {s : State} {w : BitVec 2} (hbusy : s.ctl.busy = false)
    (hsource : Config.minSrcClock ≤ c.source) (hw : widthCode c.lines = some w) :
    applyStep c s = { s with buscfg := s.buscfg.configured c w, busApplied := true } := by
  simp [applyStep, hbusy, Nat.not_lt.mpr hsource, hw, BusCfg.configured]

/-- A refused `apply` is refused again; an accepted one changes nothing that the refusal looks at. -/
theorem applyStep_applyStep (c : BusConfig) (s : State) : applyStep c (applyStep c s) = applyStep c s := by
  obtain h | ⟨w, hw, hbusy, hsource, -⟩ := applyStep_cases c s
  · rw [h, h]
  · rw [applyStep_of_accepted hbusy hsource hw]
    refine Eq.trans (applyStep_of_accepted hbusy hsource hw) ?_
    rw [BusCfg.configured_configured]

/-- Settles O50: each reason to refuse, then field by field the values that are written. -/
theorem applyConfig : Obligations.ApplyConfig := by
  refine fun c s => ⟨fun hrefused => congrArg Host.Outcome.next (applyStep_of_refused hrefused), fun hbusy hsource hlines => ?_⟩
  have happly := applyStep_of_accepted hbusy hsource (widthCode_of_valid hlines)
  exact ⟨_, congrArg Host.Outcome.next happly, rfl, by rw [BusCfg.configured_clkdiv, newClkdiv_toNat], BusCfg.configured_width ..,
    BusCfg.configured_off _ _, BusCfg.configured_up _ _, BusCfg.configured_on _ _⟩

/-- Settles O51: by idempotence of the step. -/
theorem applyIdempotent : Obligations.ApplyIdempotent := by
  rintro c s _ ⟨⟩
  exact congrArg Host.Outcome.next (applyStep_applyStep c s)

end Sys2Proof.Machine
end

section
/-! SUPPORT. The ISR step (R175, R176): when it completes the pending command, and its effect as one equation of states. -/

namespace Sys2Proof.Machine

open Sys2Proof

/-- The completion condition of R176 by the bits of the acknowledged sources: an error, the end of the data, or, without
data, the end of the command. -/
theorem irqCompletes_iff (a : Word) (hasData : Bool) :
    irqCompletes a hasData = true ↔
      a &&& 0xF#32 ≠ 0#32 ∨ a.getLsbD 6 = true ∨
        ((a.getLsbD 5 = true ∨ a.getLsbD 4 = true) ∧ hasData = false) := by
  simp [irqCompletes, errMask, bDataEnd, bCmdSent, bCmdRend, or_assoc]

theorem State.irq_eq_true_iff (s : State) : s.irq = true ↔ s.pendingSources ≠ 0#32 := by
  simp [State.irq]

/-- Everything a requested ISR step changes (R176): the acknowledge, and the signal exactly when the pending command is
complete. -/
theorem isrStep_record {s : State} {complete : Bool} (hirq : s.irq = true)
    (hcomplete : complete = true ↔
      s.pend.valid = true ∧ irqCompletes s.pendingSources (s.bank s.pend.slot).hasData = true) :
    isrStep s = { s with
      rawsta := s.rawsta &&& ~~~s.pendingSources,
      out := if s.pendingSources.getLsbD bCardIrq then .cardIrq :: s.out else s.out,
      evtst := if complete then s.rawsta else s.evtst,
      evtSet := if complete then true else s.evtSet,
      pend := if complete then { s.pend with valid := false } else s.pend } := by
  obtain ⟨-, hquiet⟩ | ⟨hack, -, hnot⟩ | ⟨hsignal, -, hvalid, hdone⟩ := isrStep_cases s
  · simp [hirq] at hquiet
  · have hfalse : complete = false := by
      rw [← Bool.not_eq_true, hcomplete]
      rintro ⟨hvalid, hdone⟩
      simp [hvalid, hdone] at hnot
    rw [hack, State.acknowledge_record, hfalse]
    rfl
  · have htrue : complete = true := hcomplete.mpr ⟨hvalid, hdone⟩
    rw [hsignal, State.acknowledge_record, htrue]
    rfl

/-- Settles O45: the quiet step, and the record of a requested one with R176's completion condition written out. -/
theorem isrStep_holds : Obligations.IsrStep := by
  refine fun s => ⟨fun hquiet => ?_, ?_⟩
  · have hirq : s.irq = false := by
      rw [← Bool.not_eq_true, State.irq_eq_true_iff]
      exact not_not.mpr hquiet
    exact congrArg Host.Outcome.next (isrStep_quiet hirq)
  · rintro _ rfl hraised complete hcomplete
    have hirq : s.irq = true := s.irq_eq_true_iff.mpr hraised
    rw [← Bank.hasData_eq, ← irqCompletes_iff] at hcomplete
    exact congrArg Host.Outcome.next (isrStep_record hirq hcomplete)

end Sys2Proof.Machine
end

section
/-! SUPPORT. The decoder and the encoder (R61 to R69): a word spells a row of R65 exactly when its `op` byte is the row's and
its zero fields are zero, a word is the concatenation of its fields, and so the two are inverse to each other. -/

namespace Sys2Proof

/-! ## The zero fields of a row (R65, R69 (a)) -/

/-- The `op` byte and the `zero` fields of a row have the values R61 to R65 give them. -/
def zeroFields (m : Mnemonic) (w : OpWord) : Prop :=
  match m with
  | .crc7    => w.extractLsb' 56 8 = 0x01#8 ∧ w.extractLsb' 28 28 = 0#28 ∧ w.extractLsb' 7 9 = 0#9
  | .crc16   => w.extractLsb' 56 8 = 0x02#8 ∧ w.extractLsb' 28 28 = 0#28
  | .crc16s4 => w.extractLsb' 56 8 = 0x03#8 ∧ w.extractLsb' 48 8 = 0#8
  | .rdreg   => w.extractLsb' 56 8 = 0x10#8 ∧ w.extractLsb' 40 16 = 0#16 ∧ w.extractLsb' 0 32 = 0#32
  | .wrreg   => w.extractLsb' 56 8 = 0x11#8 ∧ w.extractLsb' 40 16 = 0#16
  | .irqen   => w.extractLsb' 56 8 = 0x12#8 ∧ w.extractLsb' 1 55 = 0#55
  | .detect  => w.extractLsb' 56 8 = 0x13#8 ∧ w.extractLsb' 0 56 = 0#56
  | .send    => w.extractLsb' 56 8 = 0x20#8 ∧ w.extractLsb' 1 55 = 0#55
  | .exec    => w.extractLsb' 56 8 = 0x21#8 ∧ w.extractLsb' 0 56 = 0#56
  | .recover => w.extractLsb' 56 8 = 0x22#8 ∧ w.extractLsb' 0 56 = 0#56

/-- A field that a row's mask covers whole has the value the pattern gives it. -/
theorem Row.field_of_spells {r : Row} {w : OpWord} (h : r.spells w = true) {start len : Nat}
    (hmask : r.mask.extractLsb' start len = BitVec.allOnes len) :
    w.extractLsb' start len = r.pattern.extractLsb' start len := by
  rw [← beq_iff_eq.mp h, BitVec.extractLsb'_and, hmask, BitVec.and_allOnes]

/-- A word that spells a row has the row's `op` byte and zero fields. -/
theorem zeroFields_of_spells {r : Row} (hr : r ∈ rows) {w : OpWord} (h : r.spells w = true) :
    zeroFields r.mnemonic w := by
  have hfield := fun start len => Row.field_of_spells h (start := start) (len := len)
  simp only [rows, List.mem_cons, List.not_mem_nil, or_false] at hr
  obtain rfl | rfl | rfl | rfl | rfl | rfl | rfl | rfl | rfl | rfl := hr
  case inl => exact ⟨hfield 56 8 rfl, hfield 28 28 rfl, hfield 7 9 rfl⟩
  case inr.inr.inr.inl => exact ⟨hfield 56 8 rfl, hfield 40 16 rfl, hfield 0 32 rfl⟩
  all_goals exact ⟨hfield 56 8 rfl, hfield _ _ rfl⟩

/-! ## A word is the concatenation of its fields -/

/-- Two neighbouring fields side by side are one field. -/
theorem append_fields (w : OpWord) {n : Nat} (lo k : Nat) :
    w.extractLsb' (lo + k) n ++ w.extractLsb' lo k = w.extractLsb' lo (n + k) :=
  BitVec.extractLsb'_append_extractLsb'_eq_extractLsb' rfl

/-- The field of all 64 bits is the word. -/
theorem whole_field (w : OpWord) : w.extractLsb' 0 64 = w := BitVec.extractLsb'_eq_self

theorem formatK7_fields {w : OpWord} (h28 : w.extractLsb' 28 28 = 0#28) (h7 : w.extractLsb' 7 9 = 0#9) :
    formatK7 (w.extractLsb' 56 8) (w.extractLsb' 24 4) (w.extractLsb' 16 8) (w.extractLsb' 0 7) = w := by
  rw [formatK7, ← h28, ← h7, append_fields w 28 28, append_fields w 24 4, append_fields w 16 8,
    append_fields w 7 9, append_fields w 0 7, whole_field]

theorem formatK16_fields {w : OpWord} (h28 : w.extractLsb' 28 28 = 0#28) :
    formatK16 (w.extractLsb' 56 8) (w.extractLsb' 24 4) (w.extractLsb' 16 8) (w.extractLsb' 0 16) = w := by
  rw [formatK16, ← h28, append_fields w 28 28, append_fields w 24 4, append_fields w 16 8,
    append_fields w 0 16, whole_field]

theorem formatB_fields {w : OpWord} (h48 : w.extractLsb' 48 8 = 0#8) :
    formatB (w.extractLsb' 56 8) (w.extractLsb' 32 16) (w.extractLsb' 0 32) = w := by
  rw [formatB, ← h48, append_fields w 48 8, append_fields w 32 16, append_fields w 0 32, whole_field]

theorem formatR_fields {w : OpWord} (h40 : w.extractLsb' 40 16 = 0#16) :
    formatR (w.extractLsb' 56 8) (w.extractLsb' 32 8) (w.extractLsb' 0 32) = w := by
  rw [formatR, ← h40, append_fields w 40 16, append_fields w 32 8, append_fields w 0 32, whole_field]

/-- The field of one bit. -/
theorem ofBool_field (w : OpWord) : BitVec.ofBool (w.getLsbD 0) = w.extractLsb' 0 1 := by
  ext i hi
  obtain rfl : i = 0 := by omega
  simp

theorem formatN_fields {w : OpWord} (h1 : w.extractLsb' 1 55 = 0#55) :
    formatN (w.extractLsb' 56 8) (w.getLsbD 0) = w := by
  rw [formatN, ofBool_field, ← h1, append_fields w 1 55, append_fields w 0 1, whole_field]

/-- A word of format N without a bit operand. -/
theorem formatN_fields_of_no_operand {w : OpWord} (h0 : w.extractLsb' 0 56 = 0#56) :
    formatN (w.extractLsb' 56 8) false = w :=
  calc formatN (w.extractLsb' 56 8) false = w.extractLsb' 56 8 ++ w.extractLsb' 0 56 := by
        rw [h0, formatN, BitVec.append_assoc]; rfl
    _ = w := by rw [append_fields w 0 56, whole_field]

@[simp] theorem bitOfSlot_slotOfBit (b : Bool) : bitOfSlot (slotOfBit b) = b := by cases b <;> rfl

@[simp] theorem slotOfBit_bitOfSlot (c : Slot) : slotOfBit (bitOfSlot c) = c := by cases c <;> rfl

/-- A word with the zero fields of a row is the word the encoder writes for the fields assembled from it. -/
theorem encode_assemble {m : Mnemonic} {w : OpWord} (h : zeroFields m w) : encode (assemble m w) = w := by
  cases m with
  | crc7 => obtain ⟨hop, h28, h7⟩ := h; simpa only [assemble, encode, hop] using formatK7_fields h28 h7
  | crc16 => obtain ⟨hop, h28⟩ := h; simpa only [assemble, encode, hop] using formatK16_fields h28
  | crc16s4 => obtain ⟨hop, h48⟩ := h; simpa only [assemble, encode, hop] using formatB_fields h48
  | rdreg => obtain ⟨hop, h40, h0⟩ := h; simpa only [assemble, encode, hop, h0] using formatR_fields h40
  | wrreg => obtain ⟨hop, h40⟩ := h; simpa only [assemble, encode, hop] using formatR_fields h40
  | irqen => obtain ⟨hop, h1⟩ := h; simpa only [assemble, encode, hop] using formatN_fields h1
  | send =>
    obtain ⟨hop, h1⟩ := h
    simpa only [assemble, encode, bitOfSlot_slotOfBit, hop] using formatN_fields h1
  | detect | exec | recover => obtain ⟨hop, h0⟩ := h; simpa only [assemble, encode, hop] using formatN_fields_of_no_operand h0

/-! ## The fields of an encoded word -/

/-- A field of a word by its bits. -/
theorem field_eq_of_bits {n : Nat} {w : OpWord} {v : BitVec n} (start : Nat)
    (h : ∀ i, i < n → w.getLsbD (start + i) = v.getLsbD i) : w.extractLsb' start n = v := by
  ext i hi
  rw [BitVec.getElem_extractLsb', h i hi, BitVec.getLsbD_eq_getElem hi]

theorem assemble_formatK7 (op : Byte) (nbits : BitVec 4) (data : Byte) (crc : BitVec 7) :
    assemble .crc7 (formatK7 op nbits data crc) = .crc7 nbits data crc := by
  simp only [assemble, Instr.crc7.injEq]
  refine ⟨field_eq_of_bits 24 fun i hi => ?_, field_eq_of_bits 16 fun i hi => ?_, field_eq_of_bits 0 fun i hi => ?_⟩ <;>
    simp (disch := omega) only [formatK7_bit, if_pos, if_neg, Nat.add_sub_cancel_left, Nat.zero_add]

theorem assemble_formatK16 (op : Byte) (nbits : BitVec 4) (data : Byte) (crc : BitVec 16) :
    assemble .crc16 (formatK16 op nbits data crc) = .crc16 nbits data crc := by
  simp only [assemble, Instr.crc16.injEq]
  refine ⟨field_eq_of_bits 24 fun i hi => ?_, field_eq_of_bits 16 fun i hi => ?_, field_eq_of_bits 0 fun i hi => ?_⟩ <;>
    simp (disch := omega) only [formatK16_bit, if_pos, if_neg, Nat.add_sub_cancel_left, Nat.zero_add]

theorem assemble_formatB (op : Byte) (len : BitVec 16) (addr : BitVec 32) :
    assemble .crc16s4 (formatB op len addr) = .crc16s4 len addr := by
  simp only [assemble, Instr.crc16s4.injEq]
  refine ⟨field_eq_of_bits 32 fun i hi => ?_, field_eq_of_bits 0 fun i hi => ?_⟩ <;>
    simp (disch := omega) only [formatB_bit, if_pos, if_neg, Nat.add_sub_cancel_left, Nat.zero_add]

/-- The two operand fields of format R, which RDREG and WRREG share. -/
theorem formatR_operands (op : Byte) (reg : BitVec 8) (value : Word) :
    (formatR op reg value).extractLsb' 32 8 = reg ∧ (formatR op reg value).extractLsb' 0 32 = value := by
  refine ⟨field_eq_of_bits 32 fun i hi => ?_, field_eq_of_bits 0 fun i hi => ?_⟩ <;>
    simp (disch := omega) only [formatR_bit, if_pos, if_neg, Nat.add_sub_cancel_left, Nat.zero_add]

/-- The operand bit of format N. -/
theorem formatN_operand (op : Byte) (b : Bool) : (formatN op b).getLsbD 0 = b := by
  rw [formatN_bit, if_pos Nat.zero_lt_one]

/-- The fields assembled from an encoded word are the operands encoded. -/
theorem assemble_encode (i : Instr) : assemble i.mnemonic (encode i) = i := by
  cases i with
  | crc7 nbits data crc => exact assemble_formatK7 _ nbits data crc
  | crc16 nbits data crc => exact assemble_formatK16 _ nbits data crc
  | crc16s4 len addr => exact assemble_formatB _ len addr
  | rdreg reg => exact congrArg Instr.rdreg (formatR_operands _ reg 0#32).1
  | wrreg reg value => exact congrArg₂ Instr.wrreg (formatR_operands _ reg value).1 (formatR_operands _ reg value).2
  | irqen b => exact congrArg Instr.irqen (formatN_operand _ b)
  | send c => exact congrArg Instr.send ((congrArg slotOfBit (formatN_operand _ _)).trans (slotOfBit_bitOfSlot c))
  | detect | exec | recover => rfl

/-! ## Decoding (R67) -/

/-- Every instruction's encoded word spells its row. -/
theorem encode_spells (i : Instr) : ∃ r ∈ rows, r.mnemonic = i.mnemonic ∧ r.spells (encode i) = true := by
  cases i with
  | crc7 nbits data crc => exact Laws.RowMatch.crc7 nbits data crc
  | crc16 nbits data crc => exact Laws.RowMatch.crc16 nbits data crc
  | crc16s4 len addr => exact Laws.RowMatch.crc16s4 len addr
  | rdreg reg => exact Laws.RowMatch.rdreg reg
  | wrreg reg value => exact Laws.RowMatch.wrreg reg value
  | irqen b => exact Laws.RowMatch.irqen b
  | detect => exact Laws.RowMatch.detect
  | send c => exact Laws.RowMatch.send c
  | exec => exact Laws.RowMatch.exec
  | recover => exact Laws.RowMatch.recover

/-- The `op` byte of R65 for each row. -/
def Mnemonic.opByte : Mnemonic → Byte
  | .crc7 => 0x01#8
  | .crc16 => 0x02#8
  | .crc16s4 => 0x03#8
  | .rdreg => 0x10#8
  | .wrreg => 0x11#8
  | .irqen => 0x12#8
  | .detect => 0x13#8
  | .send => 0x20#8
  | .exec => 0x21#8
  | .recover => 0x22#8

theorem opByte_of_zeroFields {m : Mnemonic} {w : OpWord} (h : zeroFields m w) : w.extractLsb' 56 8 = m.opByte := by
  cases m <;> exact h.1

/-- No two rows share an `op` byte. -/
theorem Mnemonic.opByte_injective {m n : Mnemonic} (h : m.opByte = n.opByte) : m = n := by
  revert h
  cases m <;> cases n <;> decide

/-- The row that the decoder finds has its zero fields in the word. -/
theorem zeroFields_of_find {r : Row} {w : OpWord} (h : rows.find? (fun r => r.spells w) = some r) :
    zeroFields r.mnemonic w :=
  zeroFields_of_spells (List.mem_of_find?_eq_some h) (List.find?_some (p := fun r : Row => r.spells w) h)

/-- A word that spells a row decodes to the row's operation: no other row can be spelled. -/
theorem decode_of_spells {r : Row} (hr : r ∈ rows) {w : OpWord} (h : r.spells w = true) :
    decode w = .ok (assemble r.mnemonic w) := by
  cases hfind : rows.find? (fun r => r.spells w) with
  | none => exact absurd h (List.find?_eq_none.mp hfind r hr)
  | some r' =>
    have hop := opByte_of_zeroFields (zeroFields_of_spells hr h)
    have hop' := opByte_of_zeroFields (zeroFields_of_find hfind)
    simp only [decode, hfind, Mnemonic.opByte_injective (hop'.symm.trans hop)]

/-- A word that decodes spells the row of its operation. -/
theorem zeroFields_of_decode {w : OpWord} {i : Instr} (h : decode w = .ok i) :
    ∃ m, zeroFields m w ∧ i = assemble m w := by
  unfold decode at h
  split at h
  next r hfind =>
    cases h
    exact ⟨r.mnemonic, zeroFields_of_find hfind, rfl⟩
  next => split at h <;> cases h

/-- Settles O1: the encoded word spells the instruction's row and no other, and its fields are the operands. -/
theorem decodeOfEncode : Obligations.DecodeOfEncode := by
  intro i
  obtain ⟨r, hr, hm, hspells⟩ := encode_spells i
  rw [decode_of_spells hr hspells, hm, assemble_encode]

/-- Settles O2: a word that decodes has the zero fields of a row, and so is made of its operands alone. -/
theorem encodeOfDecode : Obligations.EncodeOfDecode := by
  intro w i h
  obtain ⟨m, hzero, rfl⟩ := zeroFields_of_decode h
  exact encode_assemble hzero

/-- The op bytes and zero fields that `spellsOperation` lists are those of the ten rows. -/
theorem spellsOperation_iff (w : OpWord) : Machine.spellsOperation w ↔ ∃ m, zeroFields m w := by
  constructor
  · rintro (h | h | h | h | h | ⟨h | h, h0⟩ | ⟨h | h | h, h0⟩)
    exacts [⟨.crc7, h⟩, ⟨.crc16, h⟩, ⟨.crc16s4, h⟩, ⟨.rdreg, h⟩, ⟨.wrreg, h⟩, ⟨.irqen, h, h0⟩, ⟨.send, h, h0⟩,
      ⟨.detect, h, h0⟩, ⟨.exec, h, h0⟩, ⟨.recover, h, h0⟩]
  · rintro ⟨m, h⟩
    unfold Machine.spellsOperation
    cases m <;> simp only [zeroFields] at h <;> simp only [h, and_self, true_or, or_true]

/-- A word decodes exactly when it has the zero fields of a row. -/
theorem decode_ok_iff (w : OpWord) : (∃ i, decode w = .ok i) ↔ ∃ m, zeroFields m w := by
  constructor
  · rintro ⟨i, h⟩
    obtain ⟨m, hzero, -⟩ := zeroFields_of_decode h
    exact ⟨m, hzero⟩
  · rintro ⟨m, hzero⟩
    have h := decodeOfEncode (assemble m w)
    rw [encode_assemble hzero] at h
    exact ⟨_, h⟩

/-- Settles O3: the listed fields are the rows' zero fields, and a word without them is refused. -/
theorem illegalWords : Obligations.IllegalWords := by
  intro w s
  have hiff := (spellsOperation_iff w).trans (decode_ok_iff w).symm
  refine ⟨hiff, fun hno => ?_⟩
  cases hdecode : decode w with
  | ok i => exact absurd (hiff.mpr ⟨i, hdecode⟩) hno
  | error e => exact Machine.acceptWord_error hdecode s

/-- Settles O4: by evaluation of the decoder on the ten words. -/
theorem specWordsDecode : Obligations.SpecWordsDecode :=
  ⟨rfl, rfl, rfl, rfl, rfl, rfl, rfl, rfl, rfl, rfl⟩

end Sys2Proof
end

section
/-! SUPPORT. The register numbers of R35 both ways, and register access through the port (R100 to R103). -/

namespace Sys2Proof.Machine

open Sys2Proof

/-! ## Register numbers and registers (R35) -/

theorem regOfNum_numOfReg (r : Reg) : regOfNum (numOfReg r) = some r := by
  cases r with
  | bank c br => cases c <;> cases br <;> rfl
  | hwresp i => fin_cases i <;> rfl
  | _ => rfl

/-- A register has one number. -/
theorem numOfReg_of_regOfNum {n : BitVec 8} {r : Reg} (h : regOfNum n = some r) : numOfReg r = n := by
  have hall : ∀ n : BitVec 8, (regOfNum n).all (fun r => numOfReg r == n) = true := by decide
  simpa [h] using hall n

/-- The read-only registers are those that are neither a descriptor register nor `CODECST` (R35, R101). -/
theorem hostAccess_eq_ro_iff (r : Reg) :
    hostAccess r = .ro ↔ ¬descriptorNumber (numOfReg r) ∧ numOfReg r ≠ 0x30#8 := by
  unfold descriptorNumber
  cases r with
  | bank c br => cases c <;> cases br <;> decide
  | hwresp i => fin_cases i <;> decide
  | _ => decide

/-! ## The value a register reads as (R13 to R31, R100) -/

/-- Side by side, the upper field counts in units of the lower field's width. -/
theorem toNat_append_eq {m n : Nat} (x : BitVec m) (y : BitVec n) : (x ++ y).toNat = 2 ^ n * x.toNat + y.toNat := by
  rw [BitVec.toNat_append, ← Nat.shiftLeft_add_eq_or_of_lt y.isLt, Nat.shiftLeft_eq, Nat.mul_comm]

/-- A narrow register under the mask of its implemented bits keeps its value. -/
theorem toNat_narrow {k : Nat} (x : BitVec k) {m : Word} (hk : k ≤ 32) (hm : m.toNat = 2 ^ k - 1) :
    (x.setWidth 32 &&& m).toNat = x.toNat := by
  rw [BitVec.toNat_and, BitVec.toNat_setWidth_of_le hk, hm, Nat.and_two_pow_sub_one_eq_mod, Nat.mod_eq_of_lt x.isLt]

theorem toNat_full (x : Word) : (x &&& 0xFFFFFFFF#32).toNat = x.toNat := congrArg BitVec.toNat (BitVec.and_allOnes)

theorem ErrSlot.word_masked_toNat (e : ErrSlot) :
    (e.word &&& 0x0000FFFF#32).toNat = e.cmdErr.num.toNat + 256 * e.dataErr.num.toNat := by
  have hcmd := e.cmdErr.num.isLt
  have hdata := e.dataErr.num.isLt
  rw [BitVec.toNat_and, e.word_toNat, show (0x0000FFFF#32).toNat = 2 ^ 16 - 1 from rfl,
    Nat.and_two_pow_sub_one_eq_mod, Nat.mod_eq_of_lt (by omega)]

theorem Pend.word_toNat (p : Pend) : p.word.toNat = p.valid.toNat + 2 * (bitOfSlot p.slot).toNat := by
  simp only [Pend.word, toNat_append_eq, BitVec.toNat_ofBool]
  omega

theorem DataCtl.word_toNat (d : DataCtl) :
    d.word.toNat = d.en.toNat + 2 * (dirBit d.dir).toNat + 4 * (modeBit d.mode).toNat := by
  simp only [DataCtl.word, toNat_append_eq, BitVec.toNat_ofBool]
  omega

theorem BlockCtl.word_toNat (c : BlockCtl) : c.word.toNat = c.ctlen.toNat + 2 * c.busy.toNat := by
  simp only [BlockCtl.word, toNat_append_eq, BitVec.toNat_ofBool]
  omega

theorem XSeq.word_toNat (x : XSeq) :
    x.word.toNat = x.stage.num.toNat + 8 * x.direct.toNat + 16 * (bitOfSlot x.dslot).toNat := by
  simp only [XSeq.word, toNat_append_eq, BitVec.toNat_ofBool]
  omega

theorem DmaCtl.word_toNat (d : DmaCtl) :
    d.word.toNat = d.en.toNat + 2 * (dirBit d.dir).toNat + 4 * (memWidthCode d.mwidth).toNat := by
  simp only [DmaCtl.word, toNat_append_eq, BitVec.toNat_ofBool]
  omega

theorem BusCfg.word_toNat (c : BusCfg) :
    c.word.toNat = c.clkdiv.toNat + 256 * c.width.toNat + 1024 * c.pwr.toNat + 4096 * c.clken.toNat +
      8192 * c.hwgate.toNat := by
  simp only [BusCfg.word, toNat_append_eq, BitVec.toNat_ofBool]
  omega

/-- The value a register of a bank reads as. -/
def Bank.value (b : Bank) : BankReg → Nat
  | .ctl => (b.ctl &&& 0x3F3F#32).toNat
  | .arg => b.arg.toNat
  | .blk => b.blk.toNat
  | .buf => b.buf.toNat
  | .err => b.err.cmdErr.num.toNat + 256 * b.err.dataErr.num.toNat
  | .resp0 => b.resp0.toNat
  | .resp1 => b.resp1.toNat
  | .resp2 => b.resp2.toNat
  | .resp3 => b.resp3.toNat

/-- The value a register reads as, from its fields. -/
def State.value (s : State) : Reg → Nat
  | .bank c br => (s.bank c).value br
  | .seq => s.phase.num.toNat
  | .pend => s.pend.valid.toNat + 2 * (bitOfSlot s.pend.slot).toNat
  | .evt => s.evtSet.toNat
  | .evtst => s.evtst.toNat
  | .ien => (s.ien &&& 0x27F#32).toNat
  | .rawsta => (s.rawsta &&& 0x3FF#32).toNat
  | .hwresp i => (s.hwresp i).toNat
  | .cmdreg => s.cmdreg.toNat
  | .cmdargreg => s.cmdargreg.toNat
  | .dlen => s.dlen.toNat
  | .dblk => s.dblk.toNat
  | .dctl => s.dctl.en.toNat + 2 * (dirBit s.dctl.dir).toNat + 4 * (modeBit s.dctl.mode).toNat
  | .ctl => s.ctl.ctlen.toNat + 2 * s.ctl.busy.toNat
  | .codecst => s.ovr.toNat
  | .wcnt => s.wcnt.toNat
  | .spin => s.spin.toNat
  | .xseq => s.xseq.stage.num.toNat + 8 * s.xseq.direct.toNat + 16 * (bitOfSlot s.xseq.dslot).toNat
  | .dmactl => s.dmactl.en.toNat + 2 * (dirBit s.dmactl.dir).toNat + 4 * (memWidthCode s.dmactl.mwidth).toNat
  | .dmalen => s.dmalen.toNat
  | .buscfg => s.buscfg.clkdiv.toNat + 256 * s.buscfg.width.toNat + 1024 * s.buscfg.pwr.toNat +
      4096 * s.buscfg.clken.toNat + 8192 * s.buscfg.hwgate.toNat

/-- A read gives the value of the fields: reserved bits read 0 and no implemented bit is lost. -/
theorem State.readReg_toNat (s : State) (r : Reg) : (s.readReg r).toNat = s.value r := by
  cases r with
  | bank c br =>
    cases br with
    | ctl => rfl
    | err => exact (s.bank c).err.word_masked_toNat
    | arg | blk | buf | resp0 | resp1 | resp2 | resp3 => exact toNat_full _
  | ien | rawsta => rfl
  | evtst | hwresp _ | cmdargreg | dlen | dblk | spin | dmalen => exact toNat_full _
  | seq | cmdreg | wcnt => exact toNat_narrow _ (by decide) rfl
  | evt | codecst => exact (toNat_narrow _ (by decide) rfl).trans (BitVec.toNat_ofBool _)
  | pend => exact (toNat_narrow _ (by decide) rfl).trans s.pend.word_toNat
  | dctl => exact (toNat_narrow _ (by decide) rfl).trans s.dctl.word_toNat
  | ctl => exact (toNat_narrow _ (by decide) rfl).trans s.ctl.word_toNat
  | xseq => exact (toNat_narrow _ (by decide) rfl).trans s.xseq.word_toNat
  | dmactl => exact (toNat_narrow _ (by decide) rfl).trans s.dmactl.word_toNat
  | buscfg => exact (toNat_narrow _ (by decide) rfl).trans s.buscfg.word_toNat

/-- RDREG of a defined number (R100). -/
theorem exec_rdreg {s : State} {n : BitVec 8} {r : Reg} (h : regOfNum n = some r) :
    exec (.rdreg n) s = .next (s.deliver .ok (BitVec.ofNat 64 (s.value r))) := by
  rw [← s.readReg_toNat r, BitVec.ofNat_toNat]
  simp only [exec, execRdreg, h]

/-- Settles O17: each listed number is a register's, and the value listed is that of its fields. -/
theorem registerReads : Obligations.RegisterReads := by
  intro s n v h
  suffices ∃ r, regOfNum n = some r ∧ s.value r = v by
    obtain ⟨r, hr, rfl⟩ := this
    exact exec_rdreg hr
  have hlisted : ∀ {r : Reg} {m : BitVec 8} {u : Nat}, (n, v) = (m, u) → regOfNum m = some r → s.value r = u →
      ∃ r, regOfNum n = some r ∧ s.value r = v := by
    rintro r m u ⟨⟩ hm hu
    exact ⟨r, hm, hu⟩
  simp only [List.mem_cons, List.not_mem_nil, or_false] at h
  rcases h with (h | h | h | h | h | h | h | h | h) | (h | h | h | h | h | h | h | h | h) |
      (h | h | h | h | h | h | h | h | h | h | h) | (h | h | h | h | h | h | h | h | h) | (h | h | h) <;>
    exact hlisted h rfl rfl

/-! ## WRREG (R101) -/

/-- WRREG of a writable register with no reserved bit set. -/
theorem exec_wrreg {s : State} {n : BitVec 8} {v : Word} {r : Reg} (h : regOfNum n = some r)
    (haccess : hostAccess r ≠ .ro) (hreserved : v &&& reservedMask r = 0#32) :
    exec (.wrreg n v) s = .next ((s.writeReg r v).deliver .ok 0#64) := by
  simp only [exec, execWrreg, h, haccess, hreserved, if_false, ne_eq, not_true]

/-- The number of a register is given by the register alone, so a number tells which register it is. -/
theorem regOfNum_eq_some_iff {n : BitVec 8} {r : Reg} : regOfNum n = some r ↔ n = numOfReg r :=
  ⟨fun h => (numOfReg_of_regOfNum h).symm, fun h => h ▸ regOfNum_numOfReg r⟩

/-- The reserved bits of R101 by the number of the register: `CMDs_CTL` and `CODECST` have some. -/
theorem writes_reserved_iff (r : Reg) (v : Word) :
    v &&& reservedMask r ≠ 0#32 ↔
      ((numOfReg r = 0x00#8 ∨ numOfReg r = 0x10#8) ∧ v &&& 0xFFFFC0C0#32 ≠ 0#32) ∨
        (numOfReg r = 0x30#8 ∧ v &&& 0xFFFFFFFE#32 ≠ 0#32) := by
  cases r with
  | bank c br => cases c <;> cases br <;> simp [reservedMask, numOfReg]
  | hwresp i => fin_cases i <;> simp [reservedMask, numOfReg]
  | _ => simp [reservedMask, numOfReg]

/-- The checks that WRREG makes (R69 (b), R101) look at the word alone. -/
theorem wellFormed_wrreg_eq_false_iff (s : State) (n : BitVec 8) (v : Word) :
    (Instr.wrreg n v).wellFormed = false ↔ refusedByValue s (.wrreg n v) := by
  simp only [Instr.wellFormed, writeOk, refusedByValue]
  cases hr : regOfNum n with
  | none => exact iff_of_true rfl (Or.inl ((regOfNum_eq_none_iff n).mp hr))
  | some r =>
    have hdefined : ¬undefinedNumber n := by rw [← regOfNum_eq_none_iff, hr]; exact Option.some_ne_none r
    rw [← numOfReg_of_regOfNum hr] at hdefined ⊢
    rw [← hostAccess_eq_ro_iff, ← writes_reserved_iff]
    simp only [hdefined, false_or, Bool.and_eq_false_iff, bne_eq_false_iff_eq, beq_eq_false_iff_ne]

/-- A refused WRREG changes nothing but the result port. -/
theorem exec_wrreg_of_refused {s : State} {n : BitVec 8} {v : Word} (h : refusedByValue s (.wrreg n v)) :
    exec (.wrreg n v) s = .next { s with out := .result .illegalOperand 0#64 :: s.out } :=
  exec_of_ill_formed _ s ((wellFormed_wrreg_eq_false_iff s n v).mpr h)

/-- A value without a reserved bit of `CODECST` is 1 when its bit 0 is set. -/
theorem eq_one_iff_of_codecst_value {v : Word} (h : v &&& 0xFFFFFFFE#32 = 0#32) : v = 1#32 ↔ v.getLsbD 0 = true := by
  refine ⟨fun hv => hv ▸ rfl, fun hbit => ?_⟩
  calc v = v &&& 1#32 := (and_mask_eq_self (m := 1#32) h).symm
    _ = 1#32 := by
      ext i hi
      obtain rfl | hpos := Nat.eq_zero_or_pos i
      · simpa using hbit
      · simp [BitVec.getElem_one, hpos.ne']

/-- WRREG of `CODECST` clears `OVR` when it writes 1. -/
theorem exec_wrreg_codecst {s : State} {v : Word} (h : v &&& 0xFFFFFFFE#32 = 0#32) :
    exec (.wrreg 0x30#8 v) s =
      .next { s with ovr := if v = 1#32 then false else s.ovr, out := .result .ok 0#64 :: s.out } := by
  rw [exec_wrreg (r := .codecst) rfl (by decide) h]
  simp only [State.writeReg, eq_one_iff_of_codecst_value h]
  split <;> rfl

/-- Settles O19: the registers that are written, one by one, and the three reasons to refuse. -/
theorem wrregWrites : Obligations.WrregWrites := by
  intro v s
  have hwhole : ∀ {n : BitVec 8} (c : Slot) (br : BankReg), regOfNum n = some (.bank c br) →
      hostAccess (.bank c br) ≠ .ro → reservedMask (.bank c br) = 0#32 →
      exec (.wrreg n v) s = .next ((s.writeReg (.bank c br) v).deliver .ok 0#64) := fun c br hn haccess hnone =>
    exec_wrreg hn haccess (by rw [hnone, BitVec.and_zero])
  refine ⟨fun h => ⟨exec_wrreg (r := .bank .main .ctl) rfl (by decide) h,
      exec_wrreg (r := .bank .stop .ctl) rfl (by decide) h⟩,
    ⟨hwhole .main .arg rfl (by decide) rfl, hwhole .stop .arg rfl (by decide) rfl⟩,
    ⟨hwhole .main .blk rfl (by decide) rfl, hwhole .stop .blk rfl (by decide) rfl⟩,
    ⟨hwhole .main .buf rfl (by decide) rfl, hwhole .stop .buf rfl (by decide) rfl⟩,
    exec_wrreg_codecst, fun hbits n hn => ?_, fun hbits => ?_, fun n hno hne => ?_⟩
  · exact exec_wrreg_of_refused (.inr (.inr (.inl ⟨hn, hbits⟩)))
  · exact exec_wrreg_of_refused (.inr (.inr (.inr ⟨rfl, hbits⟩)))
  · exact exec_wrreg_of_refused (.inr (.inl ⟨hno, hne⟩))

/-! ## IRQEN and DETECT (R102, R103) -/

/-- The bits of `IEN` that are implemented, one by one (R24). -/
theorem irqBits_getLsbD_of_implemented {ien : Word} (h : ien &&& ~~~irqBits = 0#32) (j : Nat) :
    (ien.getLsbD j && irqBits.getLsbD j) = ien.getLsbD j := by
  rw [← BitVec.getLsbD_and, and_mask_eq_self h]

theorem cardIrqBit_getLsbD (j : Nat) : cardIrqBit.getLsbD j = decide (j = 9) := by
  rw [show cardIrqBit = BitVec.twoPow 32 9 from rfl, BitVec.getLsbD_twoPow]
  by_cases h : j = 9 <;> simp [h, eq_comm]

/-- IRQEN writes bit 9 of `IEN` and no other bit. -/
theorem State.setCardIrqEnable_bit {s : State} (h : s.ien &&& ~~~irqBits = 0#32) (b : Bool) (j : Nat) :
    (s.setCardIrqEnable b).ien.getLsbD j = if j = 9 then b else s.ien.getLsbD j := by
  have hkeep := irqBits_getLsbD_of_implemented h j
  by_cases hj : j = 9
  · subst hj
    cases b
    · simp [State.setCardIrqEnable, cardIrqBit_getLsbD]
    · simp [State.setCardIrqEnable, cardIrqBit_getLsbD]; rfl
  · cases b
    · by_cases hlt : j < 32
      · simp only [State.setCardIrqEnable, State.setIen, Bool.false_eq_true, if_false, BitVec.getLsbD_and,
          BitVec.getLsbD_not, cardIrqBit_getLsbD, hj, hlt, decide_true, decide_false, Bool.not_false, Bool.and_true,
          hkeep]
      · simp [hj, BitVec.getLsbD_of_ge _ j (Nat.le_of_not_lt hlt)]
    · simp [State.setCardIrqEnable, cardIrqBit_getLsbD, hj, hkeep]

/-- Settles O20: the bits of `IEN` one by one, and nothing else is written but the result port. -/
theorem irqenResult : Obligations.IrqenResult := by
  intro b s h
  refine ⟨_, rfl, ?_, State.setCardIrqEnable_bit h b⟩
  cases b <;> rfl

/-- Settles O21: the level as a bit of the result. -/
theorem detectResult : Obligations.DetectResult := by
  intro s
  simp only [exec, execDetect, State.deliver_record]
  cases s.cardPresent <;> rfl

end Sys2Proof.Machine
end

section
/-! SUPPORT. What the port does: the acceptance conditions by the bits of the descriptors (R111, R130), everything an operation
can do when it is performed (`ExecEffect`), and what a presented or held word meets (R50, R66 to R69). -/

namespace Sys2Proof.Machine

open Sys2Proof

/-! ## The acceptance conditions (R111, R130) -/

theorem natBlt_iff (a b : Nat) : Nat.blt a b = true ↔ a < b := by simp [Nat.blt]

/-- When a direct SEND of a slot is accepted (R111), by the bits of its descriptor. -/
theorem State.sendOk_iff (s : State) (c : Slot) :
    s.sendOk c = true ↔ (s.bank c).ctl.getLsbD 0 = true ∧
      ((s.bank c).ctl.getLsbD 3 = true → (s.bank c).effLen ≤ s.params.bounceCap) := by
  simp only [State.sendOk, Bank.valid_eq, Bank.hasData_eq, Bool.and_eq_true, Bool.not_eq_true', ← Bool.not_eq_true,
    natBlt_iff, not_and, Nat.not_lt]

theorem refusedByValue_send_iff (s : State) (c : Slot) :
    refusedByValue s (.send c) ↔ s.sendOk c = false := by
  rw [← Bool.not_eq_true, s.sendOk_iff, refusedByValue, not_and_or, Bool.not_eq_true, Classical.not_imp, Nat.not_le]

/-- When a request is invalid (R130), by the bits of its descriptors. -/
theorem State.requestInvalid_iff (s : State) : s.requestInvalid = true ↔ invalidRequest s := by
  simp only [State.requestInvalid, State.mainDataInvalid, invalidRequest, Bank.valid_eq, Bank.hasData_eq,
    Bool.or_eq_true, Bool.and_eq_true, Bool.not_eq_true', natBlt_iff, beq_iff_eq, bne_iff_ne,
    Bank.mode_eq_stream_iff, Config.trailerBytes]
  by_cases hdata : s.bank0.ctl.getLsbD 3 = true
  · simp only [Bank.len_of_data hdata, and_assoc, or_assoc]
  · simp only [hdata, Bool.false_eq_true, false_and, and_false, or_false]

/-! ## Everything an operation can do (R66 to R69) -/

/-- The state in which a direct SEND has been accepted (R111). -/
def State.startSend (s : State) (c : Slot) : State :=
  { s.setBusy true with xseq := { s.xseq with direct := true, dslot := c }, phase := .evtReset }

/-- What performing an operation can leave. -/
inductive ExecEffect (s : State) : Instr → State → Prop where
  /-- The operands are refused (R69 (b)). -/
  | refused {i : Instr} (h : refusedByValue s i) : ExecEffect s i s.refuseOperand
  /-- CRC7, CRC16, RDREG and DETECT answer a value (R82, R83, R100, R103). -/
  | answer {i : Instr} (value : BitVec 64) : ExecEffect s i (s.deliver .ok value)
  /-- CRC16S4 above the ceiling (R91). -/
  | overCeiling {len : BitVec 16} {addr : BitVec 32} (h : 512 < len.toNat) :
      ExecEffect s (.crc16s4 len addr) ({ s with ovr := true }.deliver .ok 0#64)
  /-- CRC16S4 appends the trailer (R90). -/
  | trailer {len : BitVec 16} {addr : BitVec 32} (h : addr.toNat + len.toNat + 8 ≤ s.params.bounceCap) :
      ExecEffect s (.crc16s4 len addr) ((s.appendTrailer addr.toNat len.toNat).deliver .ok 0#64)
  /-- WRREG writes (R101). -/
  | write {v : Word} (r : Reg) (haccess : hostAccess r ≠ .ro) (hreserved : v &&& reservedMask r = 0#32) :
      ExecEffect s (.wrreg (numOfReg r) v) ((s.writeReg r v).deliver .ok 0#64)
  /-- IRQEN (R102). -/
  | irqen (b : Bool) : ExecEffect s (.irqen b) ((s.setCardIrqEnable b).deliver .ok 0#64)
  /-- SEND is accepted (R111). -/
  | send (c : Slot) (h : s.sendOk c = true) : ExecEffect s (.send c) (s.startSend c)
  /-- EXEC refuses the request (R130). -/
  | requestRefused (h : s.requestInvalid = true) : ExecEffect s .exec s.refuseRequest
  /-- EXEC accepts the request (R130). -/
  | requestAccepted (h : s.requestInvalid = false) : ExecEffect s .exec ((s.setBusy true).setStage .copyIn)
  /-- RECOVER is accepted (R140). -/
  | recover : ExecEffect s .recover ((s.setBusy true).setPhase .recovOff)

theorem execCrc16s4_effect (len : BitVec 16) (addr : BitVec 32) (s : State) :
    ∃ t, execCrc16s4 len addr s = .next t ∧ ExecEffect s (.crc16s4 len addr) t := by
  unfold execCrc16s4
  split
  next hlen => exact ⟨_, rfl, .overCeiling hlen⟩
  next hlen =>
    split
    next hcap => exact ⟨_, rfl, .refused ⟨Nat.le_of_not_lt hlen, hcap⟩⟩
    next hcap => exact ⟨_, rfl, .trailer (Nat.le_of_not_lt hcap)⟩

theorem execWrreg_effect (n : BitVec 8) (v : Word) (s : State) :
    ∃ t, execWrreg n v s = .next t ∧ ExecEffect s (.wrreg n v) t := by
  by_cases hrefused : refusedByValue s (.wrreg n v)
  · exact ⟨_, exec_wrreg_of_refused hrefused, .refused hrefused⟩
  · have hwell := mt (wellFormed_wrreg_eq_false_iff s n v).mp hrefused
    cases hr : regOfNum n with
    | none => simp [Instr.wellFormed, writeOk, hr] at hwell
    | some r =>
      simp only [Instr.wellFormed, writeOk, hr, Bool.not_eq_false, Bool.and_eq_true, bne_iff_ne, beq_iff_eq] at hwell
      obtain ⟨haccess, hreserved⟩ := hwell
      exact ⟨_, exec_wrreg hr haccess hreserved, numOfReg_of_regOfNum hr ▸ .write r haccess hreserved⟩

/-- Every operation is performed, with one of the effects listed: none stops. -/
theorem exec_effect (i : Instr) (s : State) : ∃ t, exec i s = .next t ∧ ExecEffect s i t := by
  cases i with
  | crc7 nbits data crc =>
    simp only [exec, execCrc7]
    split
    next => exact ⟨_, rfl, .answer _⟩
    next h => exact ⟨_, rfl, .refused (Nat.lt_of_not_le h)⟩
  | crc16 nbits data crc =>
    simp only [exec, execCrc16]
    split
    next => exact ⟨_, rfl, .answer _⟩
    next h => exact ⟨_, rfl, .refused (Nat.lt_of_not_le h)⟩
  | crc16s4 len addr => exact execCrc16s4_effect len addr s
  | rdreg reg =>
    cases hr : regOfNum reg with
    | none =>
      have hundefined := (regOfNum_eq_none_iff reg).mp hr
      exact ⟨_, exec_of_ill_formed _ s (wellFormed_rdreg_of_undefinedNumber hundefined), .refused hundefined⟩
    | some r => exact ⟨_, exec_rdreg hr, .answer _⟩
  | wrreg reg value => exact execWrreg_effect reg value s
  | irqen b => exact ⟨_, rfl, .irqen b⟩
  | detect => exact ⟨_, rfl, .answer _⟩
  | send c =>
    simp only [exec, execSend]
    split
    next h => exact ⟨_, rfl, .send c h⟩
    next h => exact ⟨_, rfl, .refused ((refusedByValue_send_iff s c).mpr (Bool.eq_false_iff.mpr h))⟩
  | exec =>
    simp only [exec, execExec]
    split
    next h => exact ⟨_, rfl, .requestRefused h⟩
    next h => exact ⟨_, rfl, .requestAccepted (Bool.eq_false_iff.mpr h)⟩
  | recover => exact ⟨_, rfl, .recover⟩

theorem execEffect_of_next {i : Instr} {s t : State} (h : exec i s = .next t) : ExecEffect s i t := by
  obtain ⟨u, hu, heffect⟩ := exec_effect i s
  cases hu.symm.trans h
  exact heffect

/-- An operation that R69 (b) refuses is answered `IllegalOperand`. -/
theorem exec_of_refusedByValue {i : Instr} {s : State} (h : refusedByValue s i) :
    exec i s = .next s.refuseOperand := by
  cases i with
  | crc7 nbits data crc => exact if_neg (Nat.not_le.mpr h)
  | crc16 nbits data crc => exact if_neg (Nat.not_le.mpr h)
  | crc16s4 len addr => exact (if_neg (Nat.not_lt.mpr h.1)).trans (if_pos h.2)
  | rdreg reg => exact exec_of_ill_formed _ s (wellFormed_rdreg_of_undefinedNumber h)
  | wrreg reg value => exact exec_wrreg_of_refused h
  | send c => exact if_neg (Bool.eq_false_iff.mp ((refusedByValue_send_iff s c).mp h))
  | irqen _ | detect | exec | recover => exact h.elim

theorem State.refuseRequest_out (s : State) : s.refuseRequest.out = .result .ok 6#64 :: .reqDone :: s.out := by
  cases h0 : s.bank0.valid <;> cases h1 : s.bank1.valid <;>
    simp [State.refuseRequest, State.raiseCmd, State.deliver, h0, h1] <;> rfl

@[simp] theorem State.writeReg_out (s : State) (r : Reg) (v : Word) : (s.writeReg r v).out = s.out := by
  cases r with
  | codecst => simp only [State.writeReg]; split <;> rfl
  | bank c br => exact s.setBank_out c _
  | _ => rfl

@[simp] theorem State.setCardIrqEnable_out (s : State) (b : Bool) : (s.setCardIrqEnable b).out = s.out := by
  cases b <;> rfl

/-- Settles O7: the refusals, and of every other effect what it puts out. -/
theorem operandRefusals : Obligations.OperandRefusals := by
  refine fun i s => ⟨exec_of_refusedByValue, fun hadmitted => ?_⟩
  obtain ⟨t, ht, heffect⟩ := exec_effect i s
  refine ⟨t, ht, ?_⟩
  cases heffect with
  | refused h => exact absurd h hadmitted
  | send | requestAccepted | recover => exact .inl rfl
  | requestRefused => exact .inr ⟨_, _, s.refuseRequest_out⟩
  | answer | overCeiling | trailer | write | irqen => exact .inr ⟨_, _, rfl⟩

/-- Settles O16: the ceiling is tested before the bounds. -/
theorem crc16s4OverCeiling : Obligations.Crc16s4OverCeiling := fun _ _ _ h => if_pos h

/-- Settles O23: by the acceptance condition. -/
theorem sendAccepted : Obligations.SendAccepted := fun c s hvalid hfits =>
  if_pos ((s.sendOk_iff c).mpr ⟨hvalid, hfits⟩)

/-- Everything a refused request changes (R130). -/
theorem State.refuseRequest_record (s : State) :
    s.refuseRequest = { s with
      bank0 := if s.bank0.valid then { s.bank0 with err := { s.bank0.err with cmdErr := .invalidArgument } } else s.bank0,
      bank1 := if s.bank1.valid then { s.bank1 with err := { s.bank1.err with cmdErr := .invalidArgument } } else s.bank1,
      out := .result .ok 6#64 :: .reqDone :: s.out } := by
  cases h0 : s.bank0.valid <;> cases h1 : s.bank1.valid <;> simp only [State.refuseRequest, h0, h1] <;> rfl

/-- Settles O38: by whether the request is invalid. -/
theorem execAcceptance : Obligations.ExecAcceptance := by
  refine fun s => ⟨fun hvalid => ?_, fun hinvalid => ?_⟩
  · exact if_neg (mt s.requestInvalid_iff.mp hvalid)
  · have hrefused : exec .exec s = .next s.refuseRequest := if_pos (s.requestInvalid_iff.mpr hinvalid)
    rw [hrefused, s.refuseRequest_record]
    rfl

/-! ## The port (R50, R67) -/

/-- What a word meets that the port accepts: it is refused as illegal, or performed with one of the effects listed. -/
theorem acceptWord_effect (w : OpWord) (s : State) :
    ∃ t, acceptWord w s = .next t ∧
      ((∃ e, decode w = .error e) ∧ t = s.refuseOp ∨ ∃ i, decode w = .ok i ∧ ExecEffect s i t) := by
  cases hdecode : decode w with
  | error e => exact ⟨_, acceptWord_error hdecode s, .inl ⟨⟨e, rfl⟩, rfl⟩⟩
  | ok i =>
    obtain ⟨t, ht, heffect⟩ := exec_effect i s
    exact ⟨t, (acceptWord_ok hdecode s).trans ht, .inr ⟨i, rfl, heffect⟩⟩

theorem presentWord_of_free {s : State} (h : s.ctl.busy = false) (w : OpWord) : presentWord w s = acceptWord w s := by
  simp only [presentWord, h, Bool.false_eq_true, if_false]

theorem presentWord_of_busy {s : State} (h : s.ctl.busy = true) (w : OpWord) :
    presentWord w s = .next { s with waiting := s.waiting ++ [w] } := by
  simp only [presentWord, h, if_true]

theorem acceptHeld_of_busy {s : State} (h : s.ctl.busy = true) (k : Nat) : acceptHeld k s = .next s := by
  simp only [acceptHeld, h, if_true]

theorem acceptHeld_of_held {s : State} (h : s.ctl.busy = false) {k : Nat} {w : OpWord} (hw : s.waiting[k]? = some w) :
    acceptHeld k s = acceptWord w { s with waiting := s.waiting.eraseIdx k } := by
  simp only [acceptHeld, h, hw, Bool.false_eq_true, if_false]

theorem acceptHeld_of_none {s : State} {k : Nat} (hw : s.waiting[k]? = none) : acceptHeld k s = .next s := by
  simp only [acceptHeld, hw]
  split <;> rfl

/-- Settles O5: the agent is the first of the script, and the port's answer is that of the word's decoding. -/
theorem stepRunsTheWord : Obligations.StepRunsTheWord := by
  refine ⟨fun s w i rest hs hfree hw => ?_, fun s w e rest hs hfree hw => ?_, fun s w rest hs hbusy => ?_,
    fun s k w i rest hs hfree hk hw => ?_, fun s k w e rest hs hfree hk hw => ?_, fun s nbits w i hw => ?_⟩
  · rw [step_script hs]
    exact (presentWord_of_free (s := { s with script := rest }) hfree w).trans (acceptWord_ok hw _)
  · rw [step_script hs]
    exact (presentWord_of_free (s := { s with script := rest }) hfree w).trans (acceptWord_error hw _)
  · rw [step_script hs]
    exact presentWord_of_busy (s := { s with script := rest }) hbusy w
  · rw [step_script hs]
    exact (acceptHeld_of_held (s := { s with script := rest }) hfree hk).trans (acceptWord_ok hw _)
  · rw [step_script hs]
    exact (acceptHeld_of_held (s := { s with script := rest }) hfree hk).trans (acceptWord_error hw _)
  · rw [step_script (s := s.withFetchWord nbits w) rfl]
    exact (presentWord_of_free rfl _).trans (acceptWord_ok hw _)

@[simp] theorem State.writeReg_ctl (s : State) (r : Reg) (v : Word) : (s.writeReg r v).ctl = s.ctl := by
  cases r with
  | codecst => simp only [State.writeReg]; split <;> rfl
  | bank c br => exact s.setBank_ctl c _
  | _ => rfl

@[simp] theorem State.setCardIrqEnable_ctl (s : State) (b : Bool) : (s.setCardIrqEnable b).ctl = s.ctl := by
  cases b <;> rfl

@[simp] theorem State.refuseRequest_ctl (s : State) : s.refuseRequest.ctl = s.ctl := by rw [s.refuseRequest_record]

/-- An operation that is performed starts SEND, EXEC or RECOVER and gives no result yet, or it leaves the port as it is
and gives its result. -/
theorem ExecEffect.starts_or_answers {s t : State} {i : Instr} (h : ExecEffect s i t) :
    (t.ctl.busy = true ∧ (i = .send .main ∨ i = .send .stop ∨ i = .exec ∨ i = .recover) ∧ t.out = s.out) ∨
    (t.ctl = s.ctl ∧ ∃ code value rest, t.out = .result code value :: rest) := by
  cases h with
  | send c => exact .inl ⟨rfl, by cases c <;> simp, rfl⟩
  | requestAccepted | recover => exact .inl ⟨rfl, by simp, rfl⟩
  | refused | answer | overCeiling | trailer => exact .inr ⟨rfl, _, _, _, rfl⟩
  | write | irqen => exact .inr ⟨by simp [State.deliver], _, _, _, rfl⟩
  | requestRefused => exact .inr ⟨s.refuseRequest_ctl, _, _, _, s.refuseRequest_out⟩

/-- Settles O6: a busy port takes nothing; on a free one an operation starts or answers. -/
theorem portMutex : Obligations.PortMutex := by
  refine ⟨fun s w k hbusy => ⟨presentWord_of_busy hbusy w, acceptHeld_of_busy hbusy k⟩, fun i s t hfree h => ?_⟩
  obtain ⟨hbusy, hstarts, hout⟩ | ⟨hctl, code, value, rest, hout⟩ := (execEffect_of_next h).starts_or_answers
  · exact ⟨fun _ => ⟨hstarts, hout⟩, fun hno => absurd (hbusy.symm.trans hno) (by decide)⟩
  · rw [hctl, hout]
    exact ⟨fun hbusy => absurd (hfree.symm.trans hbusy) (by decide), fun _ => ⟨code, value, rfl⟩⟩

end Sys2Proof.Machine
end

section
/-! SUPPORT. The laws of the two CRC registers (R80 to R84), proved once for a bit-serial register of any width and any taps: the
step bit by bit, splitting, linearity, the residue, and the remainder of the polynomial division. -/

namespace Sys2Proof.Machine

open Sys2Proof

/-! ## A bit-serial register of any width (R80, R81) -/

/-- One bit-serial step of a CRC register: `Crc7Bit` and `Crc16Bit` are this step with their own taps. -/
def crcBit {n : Nat} (taps : BitVec n) (c : BitVec n) (d : Bool) : BitVec n :=
  (c <<< 1) ^^^ (if c.msb ^^ d then taps else 0#n)

theorem crc7Bit_eq : crc7Bit = crcBit Config.crc7Taps := by
  funext c d
  simp only [crc7Bit, crcBit, BitVec.msb_eq_getLsbD_last]
  split <;> simp

theorem crc16Bit_eq : crc16Bit = crcBit Config.crc16Taps := by
  funext c d
  simp only [crc16Bit, crcBit, BitVec.msb_eq_getLsbD_last]
  split <;> simp

/-! ## The step over a byte (R82, R83) -/

/-- A sequence whose next element is one step with the next bit ends at the fold over the bits. -/
theorem foldl_topBits {σ : Type} (f : σ → Bool → σ) (data : Byte) (c : Nat → σ) (n : Nat)
    (h : ∀ i, i < n → c (i + 1) = f (c i) (data.getLsbD (7 - i))) : (topBits data n).foldl f (c 0) = c n := by
  induction n with
  | zero => rfl
  | succ n ih =>
    have ih' := ih fun i hi => h i (Nat.lt_succ_of_lt hi)
    rw [topBits, List.range_succ, List.map_append, List.foldl_append, ← topBits, ih', h n n.lt_succ_self]
    rfl

/-- Settles O8: the sequence is that of the fold. -/
theorem crc7Result : Obligations.Crc7Result := by
  rintro nbits data _ s c hn rfl hstep
  have hfold : crc7Step (c 0) data nbits.toNat = c nbits.toNat :=
    foldl_topBits crc7Bit data c _ fun i hi => by
      rw [hstep i hi, crc7Bit]
      simp only [bne_iff_ne, Config.crc7Taps, ← Bool.bne_eq_xor]
  rw [← hfold]
  exact if_pos hn

/-- Settles O9: the sequence is that of the fold. -/
theorem crc16Result : Obligations.Crc16Result := by
  rintro nbits data _ s c hn rfl hstep
  have hfold : crc16Step (c 0) data nbits.toNat = c nbits.toNat :=
    foldl_topBits crc16Bit data c _ fun i hi => by
      rw [hstep i hi, crc16Bit]
      simp only [bne_iff_ne, Config.crc16Taps, ← Bool.bne_eq_xor]
  rw [← hfold]
  exact if_pos hn

/-! ## Splitting, linearity and residue (R84) -/

/-- The top `a` bits of a byte, then the top `b` bits of the byte shifted by `a`, are its top `a + b` bits. -/
theorem topBits_add (data : Byte) {a b : Nat} (h : a + b ≤ 8) :
    topBits data (a + b) = topBits data a ++ topBits (data <<< a) b := by
  simp only [topBits, List.range_add, List.map_append, List.map_map]
  congr 1
  refine List.map_congr_left fun i hi => ?_
  have hi' := List.mem_range.mp hi
  simp only [Function.comp, BitVec.getLsbD_shiftLeft, show 7 - i < 8 by omega, show ¬7 - i < a by omega,
    show 7 - i - a = 7 - (a + i) by omega, decide_true, decide_false, Bool.not_false, Bool.true_and]

theorem topBits_xor (d1 d2 : Byte) (k : Nat) :
    topBits (d1 ^^^ d2) k = (List.range k).map fun i => d1.getLsbD (7 - i) ^^ d2.getLsbD (7 - i) := by
  simp only [topBits, BitVec.getLsbD_xor]

theorem crcBit_xor {n : Nat} (taps c1 c2 : BitVec n) (b1 b2 : Bool) :
    crcBit taps (c1 ^^^ c2) (b1 ^^ b2) = crcBit taps c1 b1 ^^^ crcBit taps c2 b2 := by
  have htaps : (if (c1.msb ^^ c2.msb) ^^ (b1 ^^ b2) then taps else 0#n) =
      (if c1.msb ^^ b1 then taps else 0#n) ^^^ (if c2.msb ^^ b2 then taps else 0#n) := by
    cases c1.msb <;> cases c2.msb <;> cases b1 <;> cases b2 <;> simp
  simp only [crcBit, BitVec.msb_xor, BitVec.shiftLeft_xor_distrib, htaps]
  ac_rfl

/-- The fold over equally many bits is linear in the register and the bits. -/
theorem foldl_crcBit_xor {n : Nat} (taps c1 c2 : BitVec n) (f g : Nat → Bool) (k : Nat) :
    ((List.range k).map fun i => f i ^^ g i).foldl (crcBit taps) (c1 ^^^ c2) =
      ((List.range k).map f).foldl (crcBit taps) c1 ^^^ ((List.range k).map g).foldl (crcBit taps) c2 := by
  induction k with
  | zero => rfl
  | succ k ih => simp only [List.range_succ, List.map_append, List.foldl_append, List.map_singleton, List.foldl_cons,
      List.foldl_nil, ih, crcBit_xor]

/-- A register fed its own top bit only shifts. -/
theorem crcBit_msb {n : Nat} (taps c : BitVec n) : crcBit taps c c.msb = c <<< 1 := by
  simp [crcBit]

/-- A register fed its own bits from the top only shifts. -/
theorem foldl_crcBit_own_bits {n : Nat} (taps c : BitVec n) {k : Nat} (hk : k ≤ n) :
    ((List.range k).map fun i => c.getLsbD (n - 1 - i)).foldl (crcBit taps) c = c <<< k := by
  induction k with
  | zero => simp
  | succ k ih =>
    have hmsb : (c <<< k).msb = c.getLsbD (n - 1 - k) := by
      rw [BitVec.msb_eq_getLsbD_last, BitVec.getLsbD_shiftLeft]
      simp [show n - 1 < n by omega, show ¬n - 1 < k by omega]
    rw [List.range_succ, List.map_append, List.foldl_append, ih (Nat.le_of_succ_le hk), List.map_singleton,
      List.foldl_cons, List.foldl_nil, ← hmsb, crcBit_msb, ← BitVec.shiftLeft_add]

/-- A register fed all its own bits from the top is empty. -/
theorem crc_residue {n : Nat} (taps c : BitVec n) :
    ((List.range n).map fun i => c.getLsbD (n - 1 - i)).foldl (crcBit taps) c = 0#n := by
  rw [foldl_crcBit_own_bits taps c le_rfl]
  simp

theorem crc7Step_add (c : BitVec 7) (data : Byte) {a b : Nat} (h : a + b ≤ 8) :
    crc7Step (crc7Step c data a) (data <<< a) b = crc7Step c data (a + b) := by
  simp only [crc7Step, topBits_add data h, List.foldl_append]

theorem crc16Step_add (c : BitVec 16) (data : Byte) {a b : Nat} (h : a + b ≤ 8) :
    crc16Step (crc16Step c data a) (data <<< a) b = crc16Step c data (a + b) := by
  simp only [crc16Step, topBits_add data h, List.foldl_append]

theorem crc7Step_xor (c1 c2 : BitVec 7) (d1 d2 : Byte) (k : Nat) :
    crc7Step (c1 ^^^ c2) (d1 ^^^ d2) k = crc7Step c1 d1 k ^^^ crc7Step c2 d2 k := by
  simp only [crc7Step, crc7Bit_eq, topBits_xor, foldl_crcBit_xor]
  rfl

theorem crc16Step_xor (c1 c2 : BitVec 16) (d1 d2 : Byte) (k : Nat) :
    crc16Step (c1 ^^^ c2) (d1 ^^^ d2) k = crc16Step c1 d1 k ^^^ crc16Step c2 d2 k := by
  simp only [crc16Step, crc16Bit_eq, topBits_xor, foldl_crcBit_xor]
  rfl

theorem crc7_residue (c : BitVec 7) : ((List.range 7).map fun i => c.getLsbD (6 - i)).foldl crc7Bit c = 0#7 := by
  rw [crc7Bit_eq]
  exact crc_residue _ c

theorem crc16_residue (c : BitVec 16) : ((List.range 16).map fun i => c.getLsbD (15 - i)).foldl crc16Bit c = 0#16 := by
  rw [crc16Bit_eq]
  exact crc_residue _ c

/-- Settles O11: the three laws for each of the two registers. -/
theorem crcLaws : Obligations.CrcLaws :=
  ⟨fun data _ _ h => ⟨fun c => crc7Step_add c data h, fun c => crc16Step_add c data h⟩,
    fun d1 d2 k _ => ⟨fun c1 c2 => crc7Step_xor c1 c2 d1 d2 k, fun c1 c2 => crc16Step_xor c1 c2 d1 d2 k⟩,
    fun _ => ⟨crc7_residue _, crc16_residue _⟩⟩

theorem laneBits_append (k : Nat) (xs ys : List Byte) : laneBits k (xs ++ ys) = laneBits k xs ++ laneBits k ys :=
  List.flatMap_append

/-- Settles O14: the trailer's lane is the lane's CRC from bit 15 down, and a register fed its own bits is empty. -/
theorem trailerResidue : Obligations.TrailerResidue := by
  intro bytes k hk
  rw [← laneCrc_eq_packed, laneCrc, laneBits_append, List.foldl_append, laneBits_s4Trailer bytes hk]
  exact crc16_residue _

/-! ## Polynomial division (R80, R81) -/

open Polynomial

/-- The polynomial over GF(2) whose coefficients are the bits of a register. -/
noncomputable def registerPoly {n : Nat} (c : BitVec n) : (ZMod 2)[X] :=
  (Finset.range n).sum fun j => if c.getLsbD j then X ^ j else 0

/-- The polynomial of a message, its first bit the highest coefficient. -/
noncomputable def messagePoly (bits : List Bool) : (ZMod 2)[X] :=
  bits.foldl (fun p b => X * p + (if b then 1 else 0)) 0

theorem add_self_zmod2 (p : (ZMod 2)[X]) : p + p = 0 := CharTwo.add_self_eq_zero p

theorem registerPoly_zero (n : Nat) : registerPoly (0#n) = 0 := by
  simp [registerPoly]

theorem registerPoly_xor {n : Nat} (c d : BitVec n) : registerPoly (c ^^^ d) = registerPoly c + registerPoly d := by
  rw [registerPoly, registerPoly, registerPoly, ← Finset.sum_add_distrib]
  refine Finset.sum_congr rfl fun j _ => ?_
  rw [BitVec.getLsbD_xor]
  cases c.getLsbD j <;> cases d.getLsbD j <;> simp [add_self_zmod2]

theorem registerPoly_degree_lt {n : Nat} (c : BitVec n) : (registerPoly c).degree < n := by
  refine (degree_sum_le _ _).trans_lt ((Finset.sup_lt_iff (WithBot.bot_lt_coe n)).mpr fun j hj => ?_)
  split
  · rw [degree_X_pow]
    exact WithBot.coe_lt_coe.mpr (Finset.mem_range.mp hj)
  · rw [degree_zero]
    exact WithBot.bot_lt_coe n

/-- Multiplying by `x` shifts the register, and the bit shifted out counts `x^n`. -/
theorem X_mul_registerPoly {n : Nat} (c : BitVec (n + 1)) :
    X * registerPoly c = registerPoly (c <<< 1) + if c.msb then X ^ (n + 1) else 0 := by
  have hshift : ∀ j ∈ Finset.range n, (c <<< 1).getLsbD (j + 1) = c.getLsbD j := fun j hj => by
    have hlt := Finset.mem_range.mp hj
    simp [hlt, BitVec.getLsbD_eq_getElem (Nat.lt_succ_of_lt hlt)]
  have hlow : (c <<< 1).getLsbD 0 = false := by simp
  rw [registerPoly, registerPoly, Finset.sum_range_succ, Finset.sum_range_succ', hlow, mul_add, Finset.mul_sum,
    BitVec.msb_eq_getLsbD_last]
  simp only [Bool.false_eq_true, if_false, add_zero, Nat.add_sub_cancel, mul_ite, mul_zero, ← pow_succ']
  congr 1
  exact Finset.sum_congr rfl fun j hj => by rw [hshift j hj]

/-- One bit-serial step multiplies by `x`, adds the bit at `x^n`, and subtracts the divisor at most once. -/
theorem registerPoly_crcBit {n : Nat} (taps c : BitVec (n + 1)) (d : Bool) :
    registerPoly (crcBit taps c d) = X * registerPoly c + (if d then X ^ (n + 1) else 0) +
      if c.msb ^^ d then X ^ (n + 1) + registerPoly taps else 0 := by
  have htaps : registerPoly (if c.msb ^^ d then taps else 0#(n + 1)) = if c.msb ^^ d then registerPoly taps else 0 := by
    split <;> simp [registerPoly_zero]
  have htwice := add_self_zmod2 (X ^ (n + 1))
  rw [crcBit, registerPoly_xor, htaps, X_mul_registerPoly]
  cases c.msb <;> cases d <;> simp <;> linear_combination -htwice

/-- A register after a message differs from the message times `x^n` by a multiple of the divisor. -/
theorem divisor_dvd_message_sub_register {n : Nat} (taps : BitVec (n + 1)) (bits : List Bool) :
    (X ^ (n + 1) + registerPoly taps) ∣
      messagePoly bits * X ^ (n + 1) - registerPoly (bits.foldl (crcBit taps) 0#(n + 1)) := by
  induction bits using List.reverseRecOn with
  | nil => simp [messagePoly, registerPoly_zero]
  | append_singleton bits b ih =>
    have hmessage : messagePoly (bits ++ [b]) = X * messagePoly bits + if b then 1 else 0 := by
      simp [messagePoly, List.foldl_append]
    have hbit : (if b then 1 else 0 : (ZMod 2)[X]) * X ^ (n + 1) = if b then X ^ (n + 1) else 0 := by
      rw [ite_mul, one_mul, zero_mul]
    rw [List.foldl_append, List.foldl_cons, List.foldl_nil, registerPoly_crcBit, hmessage, add_mul, hbit]
    generalize bits.foldl (crcBit taps) 0#(n + 1) = c at ih ⊢
    have hlast : (X ^ (n + 1) + registerPoly taps) ∣ if c.msb ^^ b then X ^ (n + 1) + registerPoly taps else 0 := by
      split
      · exact dvd_rfl
      · exact dvd_zero _
    convert dvd_sub (ih.mul_left X) hlast using 1
    ring

/-- The register after a message is the remainder of the message times `x^n` by the divisor. -/
theorem registerPoly_foldl {n : Nat} (taps : BitVec (n + 1)) (bits : List Bool) :
    registerPoly (bits.foldl (crcBit taps) 0#(n + 1)) =
      (messagePoly bits * X ^ (n + 1)) %ₘ (X ^ (n + 1) + registerPoly taps) := by
  have hmonic : (X ^ (n + 1) + registerPoly taps).Monic := monic_X_pow_add (registerPoly_degree_lt taps)
  have hdegree : (registerPoly (bits.foldl (crcBit taps) 0#(n + 1))).degree < (X ^ (n + 1) + registerPoly taps).degree := by
    rw [degree_add_eq_left_of_degree_lt (by rw [degree_X_pow]; exact registerPoly_degree_lt taps), degree_X_pow]
    exact registerPoly_degree_lt _
  rw [modByMonic_eq_of_dvd_sub hmonic (divisor_dvd_message_sub_register taps bits),
    (modByMonic_eq_self_iff hmonic).mpr hdegree]

theorem registerPoly_crc7Taps : registerPoly Config.crc7Taps = X ^ 3 + 1 := by
  simp [registerPoly, Finset.sum_range_succ, Config.crc7Taps, add_comm]

theorem registerPoly_crc16Taps : registerPoly Config.crc16Taps = X ^ 12 + X ^ 5 + 1 := by
  simp only [registerPoly, Finset.sum_range_succ, Config.crc16Taps]
  simp
  ring

/-- Settles O10: the two registers are the remainders by the divisors that their taps give. -/
theorem crcIsPolynomialRemainder : Obligations.CrcIsPolynomialRemainder := by
  intro bits
  have h7 := registerPoly_foldl Config.crc7Taps bits
  have h16 := registerPoly_foldl Config.crc16Taps bits
  rw [registerPoly_crc7Taps, ← crc7Bit_eq, ← add_assoc] at h7
  rw [registerPoly_crc16Taps, ← crc16Bit_eq, ← add_assoc, ← add_assoc] at h16
  exact ⟨h7, h16⟩

end Sys2Proof.Machine
end

section
/-! SUPPORT. Everything a step of ENGINE can do (R112 to R136), said once as records of the fields it writes: which micro-step
or stage it was, with its guards (`EngineEffect`). -/

namespace Sys2Proof.Machine

open Sys2Proof

/-! ## Memories after writes below a bound (R46, R47) -/

/-- The second memory is the first after single-byte writes at addresses below `n`. -/
def WritesBelow (n : Nat) : Mem → Mem → Prop :=
  Relation.ReflTransGen fun m m' => ∃ i v, i < n ∧ m' = Mem.write m i v

theorem WritesBelow.refl {n : Nat} {m : Mem} : WritesBelow n m m := Relation.ReflTransGen.refl

theorem WritesBelow.write {n : Nat} {m m' : Mem} (h : WritesBelow n m m') {i : Nat} (v : Byte) (hi : i < n) :
    WritesBelow n m (Mem.write m' i v) := h.tail ⟨i, v, hi, rfl⟩

/-- What every write below the bound keeps holds after any number of them. -/
theorem WritesBelow.keeps {n : Nat} {m m' : Mem} {p : Mem → Prop} (h : WritesBelow n m m')
    (hp : ∀ m i v, i < n → p m → p (Mem.write m i v)) (hm : p m) : p m' := by
  induction h with
  | refl => exact hm
  | tail _ hwrite ih =>
    obtain ⟨i, v, hi, rfl⟩ := hwrite
    exact hp _ i v hi ih

theorem WritesBelow.wf {n : Nat} {m m' : Mem} (h : WritesBelow n m m') (hm : Mem.wf m) : Mem.wf m' :=
  h.keeps (fun m i v _ => Mem.write_wf m i v) hm

theorem WritesBelow.range {n : Nat} {m m' : Mem} (h : WritesBelow n m m') (hm : ∀ p ∈ m, p.1 < n) :
    ∀ p ∈ m', p.1 < n :=
  h.keeps (p := fun m => ∀ p ∈ m, p.1 < n) (fun m i v hi hp => Mem.write_range m i v n hp hi) hm

theorem Mem.writeBytes_below (vs : List Byte) (m : Mem) {a n : Nat} (h : a + vs.length ≤ n) :
    WritesBelow n m (Mem.writeBytes m a vs) := by
  suffices ∀ m', WritesBelow n m m' → WritesBelow n m (Mem.writeBytes m' a vs) from this m .refl
  induction vs generalizing a with
  | nil => exact fun _ h => h
  | cons v vs ih =>
    rw [List.length_cons] at h
    exact fun m' hm' => ih (by omega) _ (hm'.write v (by omega))

theorem State.writeBuf_below (s : State) (gaps : List (List DmaMove)) {a : Nat} {vs : List Byte}
    (h : a + vs.length ≤ s.params.bounceCap) : WritesBelow s.params.bounceCap s.buf (s.writeBuf gaps a vs s.buf) :=
  s.writeBuf_keeps (fun _ _ v hi hm => hm.write v hi) gaps a vs s.buf h .refl

theorem State.readBuf_below (s : State) (gaps : List (List DmaMove)) (a n : Nat) :
    WritesBelow s.params.bounceCap s.buf (s.readBuf gaps a n s.buf).2 := by
  rw [State.readBuf_mem]
  exact s.dmaMoves_keeps (fun _ _ v hi hm => hm.write v hi) _ s.buf .refl

theorem State.appendTrailer_below (s : State) {a n : Nat} (h : a + n + 8 ≤ s.params.bounceCap) :
    WritesBelow s.params.bounceCap s.buf (s.appendTrailer a n).buf :=
  s.appendTrailer_keeps (fun _ _ v hi hm => hm.write v hi) a n h .refl

/-! ## Everything a step of ENGINE can do -/

/-- What a step of ENGINE can leave: the micro-step of the phase, or the stage where the phase is `IDLE` (R136). -/
inductive EngineEffect (s : State) : State → Prop where
  /-- S1 (R112). -/
  | evtReset (hphase : s.phase = .evtReset) :
      EngineEffect s { s.setBank s.cs { s.cur with err := ⟨.success, .success⟩ } with
        evtSet := false, evtst := 0#32, phase := if s.cur.hasData then .dataProg else .setPend }
  /-- S2 (R113). -/
  | dataProg (hphase : s.phase = .dataProg) (buf : Mem) (gaps : List (List DmaMove))
      (hbuf : WritesBelow s.params.bounceCap s.buf buf) :
      EngineEffect s { s with
        dctl := ⟨false, s.cur.dir, s.cur.mode⟩, dlen := BitVec.ofNat 32 s.cur.effLen,
        dblk := BitVec.ofNat 32 s.cur.effBlk, phase := .dmaArm, buf := buf, duringCopy := gaps }
  /-- S3 (R114). -/
  | dmaArm (hphase : s.phase = .dmaArm) (width : MemWidth) :
      EngineEffect s { s with
        dmactl := ⟨true, s.cur.dir, width⟩, dmalen := BitVec.ofNat 32 s.cur.effLen,
        dctl := { s.dctl with en := true }, phase := .setPend }
  /-- S4 (R115). -/
  | setPend (hphase : s.phase = .setPend) : EngineEffect s { s with pend := ⟨true, s.cs⟩, phase := .irqEn }
  /-- S5 (R116). -/
  | irqEn (hphase : s.phase = .irqEn) :
      EngineEffect s { s with ien := sendEnables s.ien s.cur.hasData, phase := .cmdStart }
  /-- S6 (R117). -/
  | cmdStart (hphase : s.phase = .cmdStart) (cmdreg : BitVec 9) (hsel : cmdreg.extractLsb' 6 2 = rspSel s.cur.rk) :
      EngineEffect s { s with cmdargreg := s.cur.arg, cmdreg := cmdreg, wcnt := 0#8, phase := .wait }
  /-- S7 with the event (R118). -/
  | waitEvent (hphase : s.phase = .wait) (hset : s.evtSet = true) :
      EngineEffect s { s with st := s.evtst, evtSet := false, phase := .classify }
  /-- S7 after five ticks without the event (R118). -/
  | waitTimeout (hphase : s.phase = .wait) (hclear : s.evtSet = false) :
      EngineEffect s { s.setBank s.cs { s.cur with err := { s.cur.err with cmdErr := .commandTimeout } } with
        phase := .cleanup }
  /-- S7 held (R118). -/
  | waitHeld (hphase : s.phase = .wait) (hclear : s.evtSet = false) (hticks : s.wcnt.toNat < 5) : EngineEffect s s
  /-- S8 (R119, R120). -/
  | classify (hphase : s.phase = .classify) :
      EngineEffect s { s.setBank s.cs ((s.cur.takeResponse s.hwresp0 s.hwresp1 s.hwresp2 s.hwresp3).classify s.st) with
        spin := if s.cur.hasData then s.params.drainSpinMax else s.spin,
        phase := if s.cur.hasData then .drain else .cleanup }
  /-- S9 leaves the drain (R121). -/
  | drained (hphase : s.phase = .drain) (fail : Bool) : EngineEffect s { s with drainfail := fail, phase := .drainExit }
  /-- S9 spends one unit of the budget (R121). -/
  | draining (hphase : s.phase = .drain) (hspin : s.spin ≠ 0#32) : EngineEffect s { s with spin := s.spin - 1#32 }
  /-- S10 after a failed drain (R122). -/
  | drainFailed (hphase : s.phase = .drainExit) :
      EngineEffect s { s.setBank s.cs { s.cur with err := { s.cur.err with cmdErr := .busy } } with
        dmactl := { s.dmactl with en := false }, phase := .recovOff }
  /-- S10 after a drain (R122). -/
  | drainDone (hphase : s.phase = .drainExit) :
      EngineEffect s { s with dmactl := { s.dmactl with en := false }, phase := .cleanup }
  /-- S11 of a direct SEND (R123). -/
  | cleanupDirect (hphase : s.phase = .cleanup) (hdirect : s.xseq.direct = true) (value : BitVec 64) :
      EngineEffect s { s with
        ien := s.ien &&& ~~~errMask &&& irqBits, pend := { s.pend with valid := false }, phase := .idle,
        xseq := { s.xseq with direct := false }, ctl := { s.ctl with busy := false },
        out := .result .ok value :: s.out }
  /-- S11 of a SEND of EXEC (R123). -/
  | cleanupExec (hphase : s.phase = .cleanup) (hdirect : s.xseq.direct = false) :
      EngineEffect s { s with
        ien := s.ien &&& ~~~errMask &&& irqBits, pend := { s.pend with valid := false }, phase := .idle,
        xseq := { s.xseq with stage := if s.xseq.stage = .main then .copyOut else .release } }
  /-- `S_RECOVOFF` (R141). -/
  | recovOff (hphase : s.phase = .recovOff) :
      EngineEffect s { s with ctl := { s.ctl with ctlen := false }, phase := .recovOn }
  /-- `S_RECOVON` inside SEND (R142). -/
  | recovOnSend (hphase : s.phase = .recovOn) (hsend : s.insideSend = true) :
      EngineEffect s { s with ctl := { s.ctl with ctlen := true }, phase := .cleanup }
  /-- `S_RECOVON` of RECOVER (R142). -/
  | recovOnAlone (hphase : s.phase = .recovOn) (hsend : s.insideSend = false) :
      EngineEffect s { s with ctl := ⟨true, false⟩, phase := .idle, out := .result .ok 0#64 :: s.out }
  /-- `X_COPYIN` (R131). -/
  | copyIn (hphase : s.phase = .idle) (hstage : s.xseq.stage = .copyIn) (buf : Mem) (gaps : List (List DmaMove))
      (hbuf : WritesBelow s.params.bounceCap s.buf buf) :
      EngineEffect s { s with
        buf := buf, duringCopy := gaps, xseq := { s.xseq with stage := if s.bank0.valid then .main else .stop },
        phase := .evtReset }
  /-- `X_COPYOUT` (R133). -/
  | copyOut (hphase : s.phase = .idle) (hstage : s.xseq.stage = .copyOut) (buf hostmem : Mem)
      (gaps : List (List DmaMove)) (hbuf : WritesBelow s.params.bounceCap s.buf buf)
      (hhost : WritesBelow (2 ^ 32) s.hostmem hostmem) :
      EngineEffect s { s with
        buf := buf, hostmem := hostmem, duringCopy := gaps,
        xseq := { s.xseq with stage := if s.bank1.valid then .stop else .release },
        phase := if s.bank1.valid then .evtReset else .idle }
  /-- `X_RELEASE` (R135). -/
  | release (hphase : s.phase = .idle) (hstage : s.xseq.stage = .release) :
      EngineEffect s { s with
        xseq := { s.xseq with stage := .none }, ctl := { s.ctl with busy := false },
        out := .result .ok 0#64 :: .reqDone :: s.out }
  /-- No step (R136). -/
  | nothing (hphase : s.phase = .idle)
      (hstage : s.xseq.stage ≠ .copyIn ∧ s.xseq.stage ≠ .copyOut ∧ s.xseq.stage ≠ .release) : EngineEffect s s

theorem stepDataProg_effect {s : State} (hphase : s.phase = .dataProg) : EngineEffect s (stepDataProg s) := by
  cases hcrc : s.cur.crc
  · rw [stepDataProg_of_not_crc hcrc]
    exact .dataProg hphase s.buf s.duringCopy .refl
  · have hlen : s.cur.len ≤ 512 := (s.cur.crc_iff.mp hcrc).2.2.2.2
    have hcap : 0 + s.cur.len + 8 ≤ s.dataPathOff.params.bounceCap := by
      change 0 + s.cur.len + 8 ≤ s.params.bounceExtra + 520
      omega
    rw [stepDataProg_of_crc hcrc]
    exact .dataProg hphase _ [] (s.dataPathOff.appendTrailer_below hcap)

theorem stepIrqEn_effect {s : State} (hphase : s.phase = .irqEn) : EngineEffect s (stepIrqEn s) := by
  rw [stepIrqEn, s.setIen_of_implemented (sendEnables_implemented _ _)]
  exact .irqEn hphase

theorem stepCmdStart_effect {s : State} (hphase : s.phase = .cmdStart) : EngineEffect s (stepCmdStart s) :=
  .cmdStart hphase _ (cmdreg_fields true (rspSel s.cur.rk) s.cur.opc rfl).2.2

theorem stepWait_effect {s : State} (hphase : s.phase = .wait) : EngineEffect s (stepWait s) := by
  obtain ⟨hset, h⟩ | ⟨hclear, -, h⟩ | ⟨hclear, hticks, h⟩ := stepWait_cases s <;> rw [h]
  · exact .waitEvent hphase hset
  · exact .waitTimeout hphase hclear
  · exact .waitHeld hphase hclear hticks

theorem stepDrain_effect {s : State} (hphase : s.phase = .drain) : EngineEffect s (stepDrain s) := by
  obtain ⟨-, h⟩ | ⟨-, -, h⟩ | ⟨-, hspin, h⟩ := stepDrain_cases s <;> rw [h]
  · exact .drained hphase _
  · exact .drained hphase true
  · exact .draining hphase hspin

theorem stepDrainExit_effect {s : State} (hphase : s.phase = .drainExit) : EngineEffect s (stepDrainExit s) := by
  unfold stepDrainExit
  split
  · rw [State.raiseCmd, State.setBank_record]
    have h := EngineEffect.drainFailed hphase
    rw [State.setBank_record] at h
    exact h
  · exact .drainDone hphase

theorem stepCleanup_effect {s : State} (hphase : s.phase = .cleanup) : EngineEffect s (stepCleanup s) := by
  cases hdirect : s.xseq.direct
  · have h := EngineEffect.cleanupExec hphase hdirect
    simp only [stepCleanup, hdirect, Bool.false_eq_true, if_false]
    split
    next hmain => rw [if_pos hmain] at h; exact h
    next hmain => rw [if_neg hmain] at h; exact h
  · simp only [stepCleanup, hdirect, if_true]
    exact .cleanupDirect hphase hdirect _

theorem stepRecovOn_effect {s : State} (hphase : s.phase = .recovOn) : EngineEffect s (stepRecovOn s) := by
  cases hsend : s.insideSend
  · simp only [stepRecovOn, hsend, Bool.false_eq_true, if_false]
    exact .recovOnAlone hphase hsend
  · simp only [stepRecovOn, hsend, if_true]
    exact .recovOnSend hphase hsend

theorem stageCopyIn_effect {s t : State} (hphase : s.phase = .idle) (hstage : s.xseq.stage = .copyIn)
    (h : stageCopyIn s = .next t) : EngineEffect s t := by
  obtain hcopy | ⟨hcopy, hin⟩ | hcopy | hcopy := copyIn_cases s
  · cases (stageCopyIn_of_copyIn hcopy).symm.trans h
    exact .copyIn hphase hstage s.buf s.duringCopy .refl
  · cases (stageCopyIn_of_copyIn hcopy).symm.trans h
    refine .copyIn hphase hstage _ [] (s.writeBuf_below _ ?_)
    rw [Mem.readBytes_length]
    exact Nat.le_of_ble_eq_true hin
  · simp only [stageCopyIn, hcopy] at h
    cases h
  · simp only [stageCopyIn, hcopy] at h
    cases h

theorem stageCopyOut_effect {s t : State} (hphase : s.phase = .idle) (hstage : s.xseq.stage = .copyOut)
    (h : stageCopyOut s = .next t) : EngineEffect s t := by
  obtain hcopy | ⟨hcopy, hin⟩ | hcopy | hcopy := copyOut_cases s
  · cases (stageCopyOut_of_copyOut hcopy hphase).symm.trans h
    exact .copyOut hphase hstage s.buf s.hostmem s.duringCopy .refl .refl
  · cases (stageCopyOut_of_copyOut hcopy hphase).symm.trans h
    refine .copyOut hphase hstage _ _ [] (s.readBuf_below _ _ _) (Mem.writeBytes_below _ _ ?_)
    rw [s.readBuf_length]
    exact Nat.le_of_ble_eq_true hin
  · simp only [stageCopyOut, hcopy] at h
    cases h
  · simp only [stageCopyOut, hcopy] at h
    cases h

/-- Every step of ENGINE has one of the effects listed. -/
theorem engineStep_effect {s t : State} (h : engineStep s = .next t) : EngineEffect s t := by
  unfold engineStep at h
  cases hphase : s.phase <;> rw [hphase] at h
  case idle =>
    unfold stageStep at h
    cases hstage : s.xseq.stage <;> rw [hstage] at h
    case copyIn => exact stageCopyIn_effect hphase hstage h
    case copyOut => exact stageCopyOut_effect hphase hstage h
    case release => cases h; exact .release hphase hstage
    all_goals
      cases h
      exact .nothing hphase (by simp [hstage])
  case evtReset => cases h; rw [stepEvtReset_record]; exact .evtReset hphase
  case dataProg => cases h; exact stepDataProg_effect hphase
  case dmaArm => cases h; exact .dmaArm hphase _
  case setPend => cases h; exact .setPend hphase
  case irqEn => cases h; exact stepIrqEn_effect hphase
  case cmdStart => cases h; exact stepCmdStart_effect hphase
  case wait => cases h; exact stepWait_effect hphase
  case classify => cases h; rw [stepClassify_record]; exact .classify hphase
  case drain => cases h; exact stepDrain_effect hphase
  case drainExit => cases h; exact stepDrainExit_effect hphase
  case cleanup => cases h; exact stepCleanup_effect hphase
  case recovOff => cases h; exact .recovOff hphase
  case recovOn => cases h; exact stepRecovOn_effect hphase

end Sys2Proof.Machine
end

section
/-! SUPPORT. Everything a step of any agent can do (R8), said once: the port, ENGINE, the ISR, BUS within its liberties, and the
other agents of the environment (`AgentEffect`). -/

namespace Sys2Proof.Machine

open Sys2Proof

/-! ## BUS (R185) -/

/-- The state without the registers that BUS writes. -/
def State.withoutBus (s : State) : State :=
  { s with rawsta := 0#32, hwresp0 := 0#32, hwresp1 := 0#32, hwresp2 := 0#32, hwresp3 := 0#32, cmdreg := 0#9 }

/-- The bounds of R185 on what BUS leaves. -/
structure BusChange (s t : State) : Prop where
  frame : t.withoutBus = s.withoutBus
  cmdreg : t.cmdreg = s.cmdreg ∨ t.cmdreg = s.cmdreg &&& 0x0FF#9
  reserved : s.rawsta &&& ~~~rawBits = 0#32 → t.rawsta &&& ~~~rawBits = 0#32
  sticky : s.ctl.ctlen = true → s.rawsta &&& irqBits &&& ~~~t.rawsta = 0#32

/-- The flags that stay raised, bit by bit. -/
theorem and_not_eq_zero_iff (x y : Word) : x &&& ~~~y = 0#32 ↔ ∀ j, x.getLsbD j = true → y.getLsbD j = true := by
  constructor
  · intro h j hx
    have hbit := congrArg (BitVec.getLsbD · j) h
    have hj : j < 32 := BitVec.lt_of_getLsbD hx
    simpa [hx, hj] using hbit
  · intro h
    refine BitVec.eq_of_getLsbD_eq fun j hj => ?_
    cases hx : x.getLsbD j
    · simp [hx]
    · simp [h j hx, hj]

theorem BusChange.refl (s : State) : BusChange s s where
  frame := rfl
  cmdreg := .inl rfl
  reserved := id
  sticky _ := (and_not_eq_zero_iff _ _).mpr fun j hj => by
    rw [BitVec.getLsbD_and, Bool.and_eq_true] at hj
    exact hj.1

theorem BusChange.trans {s t u : State} (h1 : BusChange s t) (h2 : BusChange t u) : BusChange s u where
  frame := h2.frame.trans h1.frame
  cmdreg := by
    obtain h | h := h1.cmdreg <;> obtain h' | h' := h2.cmdreg <;> rw [h', h]
    · exact .inl rfl
    · exact .inr rfl
    · exact .inr rfl
    · exact .inr (by rw [BitVec.and_assoc, BitVec.and_self])
  reserved := h2.reserved ∘ h1.reserved
  sticky hctlen := by
    have hctl : t.withoutBus.ctl = s.withoutBus.ctl := congrArg State.ctl h1.frame
    have hst := (and_not_eq_zero_iff _ _).mp (h1.sticky hctlen)
    have htu := (and_not_eq_zero_iff _ _).mp (h2.sticky ((congrArg BlockCtl.ctlen hctl).trans hctlen))
    refine (and_not_eq_zero_iff _ _).mpr fun j hj => htu j ?_
    rw [BitVec.getLsbD_and, hst j hj, Bool.true_and]
    rw [BitVec.getLsbD_and, Bool.and_eq_true] at hj
    exact hj.2

/-- The implemented flags alone can be raised (R23). -/
theorem setRawsta_reserved (s : State) (v : Word) : (s.setRawsta v).rawsta &&& ~~~rawBits = 0#32 := by
  simp [BitVec.and_assoc]

/-- A write of `RAWSTA` by BUS that lowers no sticky flag is within its liberties. -/
theorem BusChange.setRawsta (s : State) {v : Word}
    (h : s.ctl.ctlen = true → ∀ j, s.rawsta.getLsbD j = true → irqBits.getLsbD j = true → v.getLsbD j = true) :
    BusChange s (s.setRawsta v) where
  frame := rfl
  cmdreg := .inl rfl
  reserved _ := setRawsta_reserved s v
  sticky hctlen := (and_not_eq_zero_iff _ _).mpr fun j hj => by
    have hsub : ∀ j, irqBits.getLsbD j = true → rawBits.getLsbD j = true :=
      (and_not_eq_zero_iff irqBits rawBits).mp rfl
    rw [BitVec.getLsbD_and, Bool.and_eq_true] at hj
    rw [State.setRawsta_rawsta, BitVec.getLsbD_and, h hctlen j hj.1 hj.2, hsub j hj.2]
    rfl

theorem busAct_change (s : State) (act : BusAct) : BusChange s (busAct s act) := by
  cases act with
  | raiseFlags mask =>
    refine BusChange.setRawsta s fun _ j hraw _ => ?_
    rw [BitVec.getLsbD_or, hraw, Bool.true_or]
  | setRunning tx rx =>
    refine BusChange.setRawsta s fun _ j hraw hirq => ?_
    have hrun : ∀ j, irqBits.getLsbD j = true → (~~~runMask).getLsbD j = true := by
      refine (and_not_eq_zero_iff irqBits (~~~runMask)).mp ?_
      rfl
    rw [BitVec.getLsbD_or, BitVec.getLsbD_or, BitVec.getLsbD_and, hraw, hrun j hirq]
    rfl
  | writeResp i v => fin_cases i <;> exact ⟨rfl, .inl rfl, id, (BusChange.refl s).sticky⟩
  | clearStart => exact ⟨rfl, .inr rfl, id, (BusChange.refl s).sticky⟩
  | clearRaw mask =>
    simp only [busAct]
    split
    next => exact .refl s
    next hoff => exact BusChange.setRawsta s fun hon => absurd hon hoff

theorem busStep_change (acts : List BusAct) (s : State) : BusChange s (busStep acts s) := by
  induction acts generalizing s with
  | nil => exact .refl s
  | cons act acts ih => exact (busAct_change s act).trans (ih (busAct s act))

/-- Everything BUS leaves, as one record. -/
theorem BusChange.record {s t : State} (h : BusChange s t) :
    t = { s with rawsta := t.rawsta, hwresp0 := t.hwresp0, hwresp1 := t.hwresp1, hwresp2 := t.hwresp2,
                 hwresp3 := t.hwresp3, cmdreg := t.cmdreg } :=
  congrArg (fun u : State => { u with
    rawsta := t.rawsta, hwresp0 := t.hwresp0, hwresp1 := t.hwresp1, hwresp2 := t.hwresp2, hwresp3 := t.hwresp3,
    cmdreg := t.cmdreg }) h.frame

/-! ## Everything a step can do (R8) -/

/-- What a step of an agent can leave. -/
inductive AgentEffect (s : State) : AgentStep → State → Prop where
  /-- The port accepts no word: a host joins or leaves the held ones, or nothing happens (R50). -/
  | notAccepted {e : AgentStep} (hnone : s.acceptedWord e = none) (held : List OpWord) :
      AgentEffect s e { s with waiting := held }
  /-- The port accepts a word that spells no operation (R69 (a)). -/
  | illegal {e : AgentStep} {w : OpWord} (hword : s.acceptedWord e = some w) (held : List OpWord) :
      AgentEffect s e ({ s with waiting := held } : State).refuseOp
  /-- The port accepts a word and performs it (R67). -/
  | performed {e : AgentStep} {t : State} {w : OpWord} {i : Instr} (hword : s.acceptedWord e = some w)
      (hfree : s.ctl.busy = false) (hdecode : decode w = .ok i) (held : List OpWord)
      (heffect : ExecEffect { s with waiting := held } i t) : AgentEffect s e t
  /-- ENGINE (R136). -/
  | engine {t : State} (heffect : EngineEffect s t) : AgentEffect s .engine t
  /-- The ISR without a request (R175). -/
  | isrQuiet : AgentEffect s .isr s
  /-- The ISR with a request (R176). -/
  | isr (complete : Bool) (hvalid : complete = true → s.pend.valid = true) :
      AgentEffect s .isr { s with
        rawsta := s.rawsta &&& ~~~s.pendingSources,
        out := if s.pendingSources.getLsbD bCardIrq then .cardIrq :: s.out else s.out,
        evtst := if complete then s.rawsta else s.evtst,
        evtSet := if complete then true else s.evtSet,
        pend := if complete then { s.pend with valid := false } else s.pend }
  /-- BUS (R185). -/
  | bus {acts : List BusAct} {t : State} (hchange : BusChange s t) :
      AgentEffect s (.bus acts) { s with
        rawsta := t.rawsta, hwresp0 := t.hwresp0, hwresp1 := t.hwresp1, hwresp2 := t.hwresp2,
        hwresp3 := t.hwresp3, cmdreg := t.cmdreg }
  /-- DMA (R153). -/
  | dma {i : Nat} {v : Byte} (buf : Mem) (hbuf : WritesBelow s.params.bounceCap s.buf buf) :
      AgentEffect s (.dma i v) { s with buf := buf }
  /-- The schedule names DMA steps ahead (R43). -/
  | duringCopy (gaps : List (List DmaMove)) : AgentEffect s (.duringCopy gaps) { s with duringCopy := gaps }
  /-- TICK (R183). -/
  | tick (wcnt : BitVec 8) : AgentEffect s .tick { s with wcnt := wcnt }
  /-- `apply` (R160). -/
  | apply {c : BusConfig} (buscfg : BusCfg) (applied : Bool) :
      AgentEffect s (.apply c) { s with buscfg := buscfg, busApplied := applied }
  /-- A host writes its memory (R10). -/
  | hostWrite (a : BitVec 32) (v : Byte) :
      AgentEffect s (.hostWrite a v) { s with hostmem := Mem.write s.hostmem a.toNat v }
  /-- The level of `card_present` (R34). -/
  | card (b : Bool) : AgentEffect s (.card b) { s with cardPresent := b }
  /-- A reset (R200). -/
  | reset (d : ResetDraw) : AgentEffect s (.reset d) (resetStep d s)

theorem acceptWord_agentEffect {s t : State} {e : AgentStep} {w : OpWord} (hword : s.acceptedWord e = some w)
    (hfree : s.ctl.busy = false) (held : List OpWord) (h : acceptWord w { s with waiting := held } = .next t) :
    AgentEffect s e t := by
  obtain ⟨u, hu, heffect⟩ := acceptWord_effect w { s with waiting := held }
  cases hu.symm.trans h
  obtain ⟨-, rfl⟩ | ⟨i, hdecode, hi⟩ := heffect
  · exact .illegal hword held
  · exact .performed hword hfree hdecode held hi

theorem presentWord_agentEffect {s t : State} {w : OpWord} (h : presentWord w s = .next t) :
    AgentEffect s (.host w) t := by
  cases hbusy : s.ctl.busy
  · exact acceptWord_agentEffect (by simp [State.acceptedWord, hbusy]) hbusy s.waiting
      ((presentWord_of_free hbusy w).symm.trans h)
  · cases (presentWord_of_busy hbusy w).symm.trans h
    exact .notAccepted (by simp [State.acceptedWord, hbusy]) _

theorem acceptHeld_agentEffect {s t : State} {k : Nat} (h : acceptHeld k s = .next t) :
    AgentEffect s (.accept k) t := by
  cases hbusy : s.ctl.busy
  · cases hheld : s.waiting[k]? with
    | some w =>
      exact acceptWord_agentEffect (by simp [State.acceptedWord, hbusy, hheld]) hbusy _
        ((acceptHeld_of_held hbusy hheld).symm.trans h)
    | none =>
      cases (acceptHeld_of_none hheld).symm.trans h
      exact .notAccepted (by simp [State.acceptedWord, hbusy, hheld]) s.waiting
  · cases (acceptHeld_of_busy hbusy k).symm.trans h
    exact .notAccepted (by simp [State.acceptedWord, hbusy]) s.waiting

theorem isrStep_agentEffect (s : State) : AgentEffect s .isr (isrStep s) := by
  cases hirq : s.irq
  · rw [isrStep_quiet hirq]
    exact .isrQuiet
  · rw [isrStep_record (complete := s.pend.valid && irqCompletes s.pendingSources (s.bank s.pend.slot).hasData) hirq
      Bool.and_eq_true_iff]
    exact .isr _ fun hcomplete => (Bool.and_eq_true_iff.mp hcomplete).1

theorem dmaStep_agentEffect {s t : State} {i : Nat} {v : Byte} (h : dmaStep i v s = .next t) :
    AgentEffect s (.dma i v) t := by
  obtain hd | ⟨hd, -, hin, -⟩ | ⟨hd, -⟩ := dmaStep_cases i v s <;> cases hd.symm.trans h
  · exact .dma s.buf .refl
  · exact .dma _ (WritesBelow.refl.write v (Nat.le_of_ble_eq_true hin))

theorem tickStep_agentEffect (s : State) : AgentEffect s .tick (tickStep s) := by
  unfold tickStep
  split
  · exact .tick _
  · exact .tick s.wcnt

theorem applyStep_agentEffect (c : BusConfig) (s : State) : AgentEffect s (.apply c) (applyStep c s) := by
  obtain h | ⟨_, -, -, -, h⟩ := applyStep_cases c s <;> rw [h]
  · exact .apply s.buscfg s.busApplied
  · exact .apply _ true

/-- Every step of every agent has one of the effects listed. -/
theorem agentStep_effect {s t : State} {e : AgentStep} (h : agentStep e s = .next t) : AgentEffect s e t := by
  cases e with
  | host w => exact presentWord_agentEffect h
  | accept k => exact acceptHeld_agentEffect h
  | withdraw k => cases h; exact .notAccepted rfl _
  | engine => exact .engine (engineStep_effect h)
  | isr => cases h; exact isrStep_agentEffect s
  | bus acts =>
    cases h
    have hchange := busStep_change acts s
    rw [hchange.record]
    exact .bus hchange
  | dma i v => exact dmaStep_agentEffect h
  | duringCopy gaps => cases h; exact .duringCopy gaps
  | tick => cases h; exact tickStep_agentEffect s
  | apply c => cases h; exact applyStep_agentEffect c s
  | hostWrite a v => cases h; exact .hostWrite a v
  | card b => cases h; exact .card b
  | reset d => cases h; exact .reset d

end Sys2Proof.Machine
end

section
/-! SUPPORT. What every step keeps of the memories, the parameters, the banks and the registers: the canonical form (R7), the
address ranges (R46, R47), the descriptors and result slots (R12 to R18), and the register part of the invariant. -/

namespace Sys2Proof.Machine

open Sys2Proof

/-! ## The parameters (R5) -/

@[simp] theorem State.writeReg_params (s : State) (r : Reg) (v : Word) : (s.writeReg r v).params = s.params := by
  cases r with
  | codecst => simp only [State.writeReg]; split <;> rfl
  | bank c br => exact s.setBank_params c _
  | _ => rfl

@[simp] theorem State.setCardIrqEnable_params (s : State) (b : Bool) : (s.setCardIrqEnable b).params = s.params := by
  cases b <;> rfl

theorem ExecEffect.params {s t : State} {i : Instr} (h : ExecEffect s i t) : t.params = s.params := by
  cases h with
  | write | irqen => simp [State.deliver]
  | requestRefused => rw [s.refuseRequest_record]
  | _ => rfl

theorem EngineEffect.params {s t : State} (h : EngineEffect s t) : t.params = s.params := by
  cases h with
  | evtReset | waitTimeout | classify | drainFailed => exact s.setBank_params _ _
  | _ => rfl

theorem AgentEffect.params {s t : State} {e : AgentStep} (h : AgentEffect s e t) : t.params = s.params := by
  cases h with
  | performed _ _ _ _ heffect => exact heffect.params
  | engine heffect => exact heffect.params
  | _ => rfl

/-! ## The memories (R7, R46, R47) -/

theorem ExecEffect.memories {s t : State} {i : Instr} (h : ExecEffect s i t) :
    WritesBelow s.params.bounceCap s.buf t.buf ∧ t.hostmem = s.hostmem := by
  have huntouched : ∀ {u : State}, u.memories = s.memories →
      WritesBelow s.params.bounceCap s.buf u.buf ∧ u.hostmem = s.hostmem := fun {u} hu => by
    obtain ⟨hbuf, hhost⟩ := (State.memories_eq_iff s u).mp hu
    exact ⟨hbuf ▸ .refl, hhost⟩
  cases h with
  | trailer hcap => exact ⟨s.appendTrailer_below hcap, rfl⟩
  | write r => exact huntouched (s.writeReg_memories r _)
  | irqen b => exact huntouched (s.setCardIrqEnable_memories b)
  | requestRefused => exact huntouched s.refuseRequest_memories
  | _ => exact huntouched rfl

theorem EngineEffect.memories {s t : State} (h : EngineEffect s t) :
    WritesBelow s.params.bounceCap s.buf t.buf ∧ WritesBelow (2 ^ 32) s.hostmem t.hostmem := by
  cases h with
  | dataProg _ buf gaps hbuf => exact ⟨hbuf, .refl⟩
  | copyIn _ _ buf gaps hbuf => exact ⟨hbuf, .refl⟩
  | copyOut _ _ buf hostmem gaps hbuf hhost => exact ⟨hbuf, hhost⟩
  | evtReset | waitTimeout | classify | drainFailed => simp [WritesBelow.refl]
  | _ => exact ⟨.refl, .refl⟩

/-- Every step but a reset changes the two memories by single-byte writes inside them. -/
theorem AgentEffect.memories {s t : State} {e : AgentStep} (h : AgentEffect s e t) :
    WritesBelow s.params.bounceCap s.buf t.buf ∧ WritesBelow (2 ^ 32) s.hostmem t.hostmem ∨
      ∃ d, t = resetStep d s := by
  cases h with
  | performed _ _ _ _ heffect =>
    obtain ⟨hbuf, hhost⟩ := heffect.memories
    exact .inl ⟨hbuf, hhost ▸ .refl⟩
  | engine heffect => exact .inl heffect.memories
  | dma buf hbuf => exact .inl ⟨hbuf, .refl⟩
  | hostWrite a v => exact .inl ⟨.refl, WritesBelow.refl.write v a.isLt⟩
  | reset d => exact .inr ⟨d, rfl⟩
  | _ => exact .inl ⟨.refl, .refl⟩

theorem AgentEffect.memories_wf {s t : State} {e : AgentStep} (h : AgentEffect s e t) (hbuf : Mem.wf s.buf)
    (hhost : Mem.wf s.hostmem) : Mem.wf t.buf ∧ Mem.wf t.hostmem := by
  obtain ⟨hb, hh⟩ | ⟨d, rfl⟩ := h.memories
  · exact ⟨hb.wf hbuf, hh.wf hhost⟩
  · exact ⟨Mem.writeBytes_wf _ [] 0 Mem.wf_nil, hhost⟩

/-- A reset draws at most `BOUNCE_CAP` bytes of `BUF` (R36). -/
theorem resetStep_buf_range (d : ResetDraw) (s : State) : ∀ p ∈ (resetStep d s).buf, p.1 < s.params.bounceCap := by
  refine Mem.writeBytes_range _ [] 0 _ (by simp) ?_
  simp

theorem AgentEffect.memInv {s t : State} {e : AgentStep} (h : AgentEffect s e t) (hinv : MemInv s) : MemInv t := by
  obtain ⟨hbufWf, hhostWf⟩ := h.memories_wf hinv.bufCanonical hinv.hostCanonical
  have hparams := h.params
  obtain ⟨hb, hh⟩ | ⟨d, rfl⟩ := h.memories
  · exact ⟨hbufWf, hparams ▸ hb.range hinv.bufRange, hhostWf, hh.range hinv.hostRange⟩
  · exact ⟨hbufWf, resetStep_buf_range d s, hhostWf, hinv.hostRange⟩

/-- A step of the machine is a step of an agent from the state with the schedule advanced. -/
theorem step_eq (s : State) :
    ∃ e script count, step s = agentStep e { s with script := script, freeCount := count } := by
  cases hs : s.script with
  | cons e rest => exact ⟨e, rest, s.freeCount, step_script hs⟩
  | nil =>
    refine ⟨Config.freeAgent s.freeCount, [], s.freeCount + 1, (step_free hs).trans ?_⟩
    rw [← hs]

/-- Settles O56: the bytes change by single-byte writes, or are drawn anew. -/
theorem memoryStaysCanonical : Obligations.MemoryStaysCanonical := by
  intro s t hbuf hhost h
  obtain ⟨e, script, count, hstep⟩ := step_eq s
  exact (agentStep_effect (hstep.symm.trans h)).memories_wf hbuf hhost

/-! ## The banks (R12 to R18) -/

/-- The four descriptor registers of a bank (R12). -/
def Bank.descriptor (b : Bank) : Word × Word × Word × Word := (b.ctl, b.arg, b.blk, b.buf)

/-- The result slot of a bank (R12). -/
def Bank.result (b : Bank) : ErrSlot × Word × Word × Word × Word := (b.err, b.resp0, b.resp1, b.resp2, b.resp3)

/-- The part of the invariant about one bank (R13, R170). -/
structure BankInv (b : Bank) : Prop where
  ctlReserved : b.ctl &&& 0xFFFFC0C0#32 = 0#32
  cmdErr : b.err.cmdErr ≠ .dataCrcError ∧ b.err.cmdErr ≠ .dataTimeout
  dataErr : b.err.dataErr = .success ∨ b.err.dataErr = .dataCrcError ∨ b.err.dataErr = .dataTimeout

/-- Recording a command error in a bank. -/
theorem BankInv.raise {b : Bank} (h : BankInv b) (e : ErrCode) (he : e ≠ .dataCrcError ∧ e ≠ .dataTimeout) :
    BankInv { b with err := { b.err with cmdErr := e } } := ⟨h.ctlReserved, he, h.dataErr⟩

theorem classifyCmd_field (st : Word) (rk : RespKind) :
    classifyCmd st rk ≠ .dataCrcError ∧ classifyCmd st rk ≠ .dataTimeout := by
  unfold classifyCmd
  split
  · decide
  · split <;> decide

theorem classifyData_field (st : Word) :
    classifyData st = .success ∨ classifyData st = .dataCrcError ∨ classifyData st = .dataTimeout := by
  unfold classifyData
  split
  · exact .inr (.inr rfl)
  · split
    · exact .inr (.inl rfl)
    · exact .inl rfl

/-- Storing the response and classifying the status keep a bank's part of the invariant (R119, R120). -/
theorem BankInv.classify {b : Bank} (h : BankInv b) (st w0 w1 w2 w3 : Word) :
    BankInv ((b.takeResponse w0 w1 w2 w3).classify st) := by
  rw [Bank.classify_takeResponse]
  refine ⟨h.ctlReserved, classifyCmd_field st _, ?_⟩
  simp only
  split
  · exact h.dataErr
  · exact classifyData_field st

/-- The phases in which ENGINE writes the result slot of the current bank (R112, R118 to R120, R122). -/
def Phase.writesResult (p : Phase) : Prop := p = .evtReset ∨ p = .wait ∨ p = .classify ∨ p = .drainExit

/-- ENGINE writes no descriptor, and a result slot only of the current bank in those phases. -/
theorem EngineEffect.bank {s t : State} (h : EngineEffect s t) (c : Slot) :
    t.bank c = s.bank c ∨
      (c = s.cs ∧ s.phase.writesResult ∧ (t.bank c).descriptor = (s.bank c).descriptor ∧
        (BankInv (s.bank c) → BankInv (t.bank c))) := by
  have hset : ∀ {b : Bank} {u : State}, u.bank c = (s.setBank s.cs b).bank c → s.phase.writesResult →
      b.descriptor = s.cur.descriptor → (BankInv s.cur → BankInv b) →
      u.bank c = s.bank c ∨ (c = s.cs ∧ s.phase.writesResult ∧ (u.bank c).descriptor = (s.bank c).descriptor ∧
        (BankInv (s.bank c) → BankInv (u.bank c))) := fun hu hphase hdesc hinv => by
    rw [hu, State.bank_setBank]
    split
    next hc => subst hc; exact .inr ⟨rfl, hphase, hdesc, hinv⟩
    next => exact .inl rfl
  cases h with
  | evtReset hphase =>
    exact hset rfl (.inl hphase) rfl fun hinv => ⟨hinv.ctlReserved, by simp, .inl rfl⟩
  | waitTimeout hphase => exact hset rfl (.inr (.inl hphase)) rfl fun hinv => hinv.raise _ (by simp)
  | classify hphase =>
    refine hset rfl (.inr (.inr (.inl hphase))) ?_ fun hinv => hinv.classify _ _ _ _ _
    rw [Bank.classify_takeResponse]
    rfl
  | drainFailed hphase => exact hset rfl (.inr (.inr (.inr hphase))) rfl fun hinv => hinv.raise _ (by simp)
  | _ => exact .inl rfl

theorem EngineEffect.descriptor {s t : State} (h : EngineEffect s t) (c : Slot) :
    (t.bank c).descriptor = (s.bank c).descriptor := by
  obtain hsame | ⟨-, -, hdesc, -⟩ := h.bank c
  · rw [hsame]
  · exact hdesc

/-- The writable registers of a bank are its descriptor registers (R101). -/
theorem descriptorNumber_of_writable {c : Slot} {br : BankReg} (h : hostAccess (.bank c br) ≠ .ro) :
    descriptorNumber (numOfReg (.bank c br)) := by
  rw [ne_eq, hostAccess_eq_ro_iff, not_and_or, not_not, not_not] at h
  obtain hdesc | hnum := h
  · exact hdesc
  · cases (regOfNum_eq_some_iff.mpr hnum.symm).symm.trans (regOfNum_numOfReg .codecst)

theorem Bank.store_result (b : Bank) (br : BankReg) (v : Word) : (b.store br v).result = b.result := by
  cases br <;> rfl

theorem BankInv.store {b : Bank} (h : BankInv b) {c : Slot} {br : BankReg} {v : Word}
    (hreserved : v &&& reservedMask (.bank c br) = 0#32) : BankInv (b.store br v) := by
  cases br with
  | ctl => exact ⟨hreserved, h.cmdErr, h.dataErr⟩
  | _ => exact ⟨h.ctlReserved, h.cmdErr, h.dataErr⟩

/-- A refused request records `InvalidArgument` in each valid bank (R130). -/
theorem State.refuseRequest_bank (s : State) (c : Slot) :
    s.refuseRequest.bank c =
      if (s.bank c).valid then { s.bank c with err := { (s.bank c).err with cmdErr := .invalidArgument } }
      else s.bank c := by
  rw [s.refuseRequest_record]
  cases c <;> rfl

/-- What an operation can do to a bank: WRREG writes a descriptor register, a refused EXEC records `InvalidArgument`. -/
theorem ExecEffect.bank {s t : State} {i : Instr} (h : ExecEffect s i t) (c : Slot) :
    t.bank c = s.bank c ∨
      ((∃ n v, i = .wrreg n v ∧ descriptorNumber n) ∧ (t.bank c).result = (s.bank c).result ∧
        (BankInv (s.bank c) → BankInv (t.bank c))) ∨
      (i = .exec ∧ s.requestInvalid = true ∧
        t.bank c = { s.bank c with err := { (s.bank c).err with cmdErr := .invalidArgument } }) := by
  cases h with
  | @write v r haccess hreserved =>
    cases r with
    | codecst => left; simp only [State.writeReg]; split <;> rfl
    | bank d br =>
      have hbank : ((s.writeReg (.bank d br) v).deliver .ok 0#64).bank c =
          if c = d then (s.bank d).store br v else s.bank c := s.bank_setBank d c _
      rw [hbank]
      split
      next hc =>
        subst hc
        exact .inr (.inl ⟨⟨_, v, rfl, descriptorNumber_of_writable haccess⟩, Bank.store_result _ br v,
          (·.store hreserved)⟩)
      next => exact .inl rfl
    | _ => exact .inl rfl
  | irqen b => left; cases b <;> rfl
  | requestRefused hinvalid =>
    rw [s.refuseRequest_bank]
    split
    · exact .inr (.inr ⟨rfl, hinvalid, rfl⟩)
    · exact .inl rfl
  | _ => exact .inl rfl

theorem ExecEffect.bankInv {s t : State} {i : Instr} (h : ExecEffect s i t) {c : Slot} (hinv : BankInv (s.bank c)) :
    BankInv (t.bank c) := by
  obtain hsame | ⟨-, -, hkeep⟩ | ⟨-, -, hraise⟩ := h.bank c
  · exact hsame ▸ hinv
  · exact hkeep hinv
  · exact hraise ▸ hinv.raise _ (by simp)

theorem EngineEffect.bankInv {s t : State} (h : EngineEffect s t) {c : Slot} (hinv : BankInv (s.bank c)) :
    BankInv (t.bank c) := by
  obtain hsame | ⟨-, -, -, hkeep⟩ := h.bank c
  · exact hsame ▸ hinv
  · exact hkeep hinv

/-! ## The registers (R23, R24, R26, R30, R153) -/

/-- The part of the register invariant that is not about the banks. -/
structure PlainRegInv (s : State) : Prop where
  rawstaReserved : s.rawsta &&& ~~~rawBits = 0#32
  ienReserved : s.ien &&& ~~~irqBits = 0#32
  rspSelLegal : s.cmdreg.extractLsb' 6 2 ≠ 2#2
  spinBound : s.spin.toNat ≤ s.params.drainSpinMax.toNat
  dmaBound : s.dmactl.en = true → s.dmalen.toNat ≤ s.params.bounceCap

theorem regInv_iff (s : State) : RegInv s ↔ PlainRegInv s ∧ ∀ c, BankInv (s.bank c) := by
  constructor
  · intro h
    refine ⟨⟨h.rawstaReserved, h.ienReserved, h.rspSelLegal, h.spinBound, h.dmaBound⟩, fun c => ?_⟩
    exact ⟨h.ctlReserved c, h.cmdErrField c, h.dataErrField c⟩
  · rintro ⟨h, hb⟩
    exact ⟨h.rawstaReserved, h.ienReserved, fun c => (hb c).ctlReserved, h.rspSelLegal, h.spinBound,
      fun c => (hb c).cmdErr, fun c => (hb c).dataErr, h.dmaBound⟩

/-- What a write of `IEN` leaves has no unimplemented bit (R24). -/
theorem and_irqBits_reserved (v : Word) : v &&& irqBits &&& ~~~irqBits = 0#32 := by
  rw [BitVec.and_assoc, BitVec.and_not_self]
  exact BitVec.and_zero

theorem ExecEffect.plainRegInv {s t : State} {i : Instr} (h : ExecEffect s i t) (hinv : PlainRegInv s) :
    PlainRegInv t := by
  obtain ⟨hraw, hien, hsel, hspin, hdma⟩ := hinv
  cases h with
  | write r =>
    cases r with
    | bank c br => cases c <;> exact ⟨hraw, hien, hsel, hspin, hdma⟩
    | codecst => simp only [State.writeReg]; split <;> exact ⟨hraw, hien, hsel, hspin, hdma⟩
    | _ => exact ⟨hraw, hien, hsel, hspin, hdma⟩
  | irqen b => cases b <;> exact ⟨hraw, and_irqBits_reserved _, hsel, hspin, hdma⟩
  | requestRefused => rw [s.refuseRequest_record]; exact ⟨hraw, hien, hsel, hspin, hdma⟩
  | _ => exact ⟨hraw, hien, hsel, hspin, hdma⟩

theorem rspSel_ne_two (rk : RespKind) : rspSel rk ≠ 2#2 := by cases rk <;> decide

/-- A decrement of a counter that is not 0. -/
theorem toNat_sub_one {x : Word} (h : x ≠ 0#32) : (x - 1#32).toNat + 1 = x.toNat := by
  have hpos : x.toNat ≠ 0 := fun h0 => h (BitVec.eq_of_toNat_eq h0)
  have hlt := x.isLt
  rw [BitVec.toNat_sub]
  simp
  omega

/-- The bits that stay of a value without bits outside a mask. -/
theorem and_reserved_of_reserved {x y m : Word} (h : x &&& ~~~m = 0#32) : x &&& y &&& ~~~m = 0#32 := by
  rw [BitVec.and_assoc, BitVec.and_comm y, ← BitVec.and_assoc, h, BitVec.zero_and]

/-- ENGINE keeps the registers legal; what S3 arms must fit in `BUF`. -/
theorem EngineEffect.plainRegInv {s t : State} (h : EngineEffect s t) (hinv : PlainRegInv s)
    (hfits : s.phase = .dmaArm → s.cur.effLen ≤ s.params.bounceCap) : PlainRegInv t := by
  obtain ⟨hraw, hien, hsel, hspin, hdma⟩ := hinv
  cases h with
  | dmaArm hphase =>
    refine ⟨hraw, hien, hsel, hspin, fun _ => ?_⟩
    exact (BitVec.toNat_ofNat _ 32 ▸ Nat.mod_le _ _).trans (hfits hphase)
  | irqEn =>
    refine ⟨hraw, ?_, hsel, hspin, hdma⟩
    change sendEnables _ _ &&& _ = _
    rw [← sendEnables_implemented]
    exact and_irqBits_reserved _
  | cmdStart _ cmdreg hcmd => exact ⟨hraw, hien, hcmd ▸ rspSel_ne_two _, hspin, hdma⟩
  | classify =>
    refine ⟨by simpa using hraw, by simpa using hien, by simpa using hsel, ?_, by simpa using hdma⟩
    simp only [State.setBank_params]
    split
    · exact le_rfl
    · exact hspin
  | draining _ hne =>
    have hless := toNat_sub_one hne
    exact ⟨hraw, hien, hsel, by simp only; omega, hdma⟩
  | drainFailed => exact ⟨by simpa using hraw, by simpa using hien, by simpa using hsel, by simpa using hspin, by simp⟩
  | drainDone => exact ⟨hraw, hien, hsel, hspin, by simp⟩
  | evtReset | waitTimeout =>
    exact ⟨by simpa using hraw, by simpa using hien, by simpa using hsel, by simpa using hspin, by simpa using hdma⟩
  | cleanupDirect | cleanupExec => exact ⟨hraw, and_irqBits_reserved _, hsel, hspin, hdma⟩
  | _ => exact ⟨hraw, hien, hsel, hspin, hdma⟩

/-- `CMDREG` with `START` cleared keeps its selector. -/
theorem cmdreg_clearStart_rspSel (r : BitVec 9) : (r &&& 0x0FF#9).extractLsb' 6 2 = r.extractLsb' 6 2 := by
  rw [BitVec.extractLsb'_and, show (0x0FF#9).extractLsb' 6 2 = BitVec.allOnes 2 from rfl, BitVec.and_allOnes]

theorem BusChange.rspSel {s t : State} (h : BusChange s t) : t.cmdreg.extractLsb' 6 2 = s.cmdreg.extractLsb' 6 2 := by
  obtain hsame | hclear := h.cmdreg
  · rw [hsame]
  · rw [hclear, cmdreg_clearStart_rspSel]

theorem resetStep_regInv (d : ResetDraw) (s : State) : RegInv (resetStep d s) := by
  refine (regInv_iff _).mpr ⟨⟨BitVec.zero_and, BitVec.zero_and, by simp [resetStep, State.reset], Nat.zero_le _,
    fun h => nomatch h⟩, fun c => ?_⟩
  cases c <;> exact ⟨BitVec.zero_and, by simp [resetStep, State.reset, State.bank, Bank.reset], .inl rfl⟩

theorem AgentEffect.regInv {s t : State} {e : AgentStep} (h : AgentEffect s e t) (hinv : RegInv s)
    (hfits : s.phase = .dmaArm → s.cur.effLen ≤ s.params.bounceCap) : RegInv t := by
  obtain ⟨hplain, hbanks⟩ := (regInv_iff s).mp hinv
  cases h with
  | performed _ _ _ held heffect =>
    have hplain' : PlainRegInv { s with waiting := held } :=
      ⟨hplain.rawstaReserved, hplain.ienReserved, hplain.rspSelLegal, hplain.spinBound, hplain.dmaBound⟩
    exact (regInv_iff t).mpr ⟨heffect.plainRegInv hplain', fun c => heffect.bankInv (hbanks c)⟩
  | engine heffect => exact (regInv_iff t).mpr ⟨heffect.plainRegInv hplain hfits, fun c => heffect.bankInv (hbanks c)⟩
  | reset d => exact resetStep_regInv d s
  | isr =>
    exact (regInv_iff _).mpr ⟨⟨and_reserved_of_reserved hplain.rawstaReserved, hplain.ienReserved, hplain.rspSelLegal,
      hplain.spinBound, hplain.dmaBound⟩, hbanks⟩
  | bus hchange =>
    exact (regInv_iff _).mpr ⟨⟨hchange.reserved hplain.rawstaReserved, hplain.ienReserved,
      hchange.rspSel ▸ hplain.rspSelLegal, hplain.spinBound, hplain.dmaBound⟩, hbanks⟩
  | _ =>
    exact (regInv_iff _).mpr ⟨⟨hplain.rawstaReserved, hplain.ienReserved, hplain.rspSelLegal, hplain.spinBound,
      hplain.dmaBound⟩, hbanks⟩

end Sys2Proof.Machine
end

section
/-! SUPPORT. The control state (R136): the block is free, in RECOVER, between two commands of an EXEC, or inside a SEND
(`CtlMode`). That is what the control part of the invariant says, and every step goes from one of these modes to one of them. -/

namespace Sys2Proof.Machine

open Sys2Proof

/-! ## The modes -/

/-- No SEND is in progress: none is called directly, no command is pending, the error interrupts are off. -/
structure NoSend (s : State) : Prop where
  direct : s.xseq.direct = false
  pend : s.pend.valid = false
  errors : s.ien &&& errMask = 0#32

/-- Who called the SEND in progress, and that its descriptor was accepted (R111, R130, R131, R133). -/
def SendCaller (s : State) : Prop :=
  (s.xseq.direct = true ∧ s.xseq.stage = .none ∧ s.sendOk s.xseq.dslot = true) ∨
  (s.xseq.direct = false ∧ s.requestInvalid = false ∧
    (s.xseq.stage = .main ∧ s.bank0.valid = true ∨ s.xseq.stage = .stop ∧ s.bank1.valid = true))

/-- What holds in each phase of a SEND (R112 to R123). -/
structure InSend (s : State) : Prop where
  notIdle : s.phase ≠ .idle
  ctlenOff : s.ctl.ctlen = false ↔ s.phase = .recovOn
  pendWhere : s.pend.valid = true → (s.phase.armed ∨ s.phase = .cleanup) ∧ s.pend.slot = s.cs
  pendOrEvent : s.phase.armed → s.pend.valid = !s.evtSet
  eventReset : s.phase = .dataProg ∨ s.phase = .dmaArm ∨ s.phase = .setPend → s.evtSet = false
  errorsOff : s.phase.beforeEnable → s.ien &&& errMask = 0#32
  dataAttached : s.phase.dataOnly → s.cur.hasData = true

/-- The control modes of the block. -/
inductive CtlMode (s : State) : Prop where
  /-- The port is free (R50). -/
  | free (hbusy : s.ctl.busy = false) (hphase : s.phase = .idle) (hstage : s.xseq.stage = .none)
      (hctlen : s.ctl.ctlen = true) (hno : NoSend s)
  /-- RECOVER is in progress (R140 to R142). -/
  | recover (hbusy : s.ctl.busy = true)
      (hphase : s.phase = .recovOff ∧ s.ctl.ctlen = true ∨ s.phase = .recovOn ∧ s.ctl.ctlen = false)
      (hstage : s.xseq.stage = .none) (hno : NoSend s)
  /-- EXEC is in a stage that is one step (R131, R133, R135). -/
  | between (hbusy : s.ctl.busy = true) (hphase : s.phase = .idle)
      (hstage : s.xseq.stage = .copyIn ∨ s.xseq.stage = .copyOut ∧ s.bank0.valid = true ∨ s.xseq.stage = .release)
      (hctlen : s.ctl.ctlen = true) (hrequest : s.requestInvalid = false) (hno : NoSend s)
  /-- A SEND is in progress (R110). -/
  | send (hbusy : s.ctl.busy = true) (hcaller : SendCaller s) (hin : InSend s)

theorem SendCaller.insideSend {s : State} (h : SendCaller s) : s.insideSend = true := by
  rw [s.insideSend_iff]
  obtain ⟨hdirect, -, -⟩ | ⟨-, -, ⟨hmain, -⟩ | ⟨hstop, -⟩⟩ := h
  · exact .inl hdirect
  · exact .inr (.inl hmain)
  · exact .inr (.inr hstop)

theorem State.insideSend_eq_false_iff (s : State) :
    s.insideSend = false ↔ s.xseq.direct = false ∧ s.xseq.stage ≠ .main ∧ s.xseq.stage ≠ .stop := by
  rw [← Bool.not_eq_true, s.insideSend_iff, not_or, not_or, Bool.not_eq_true]

/-- The invariant gives the mode. -/
theorem CtlInv.mode {s : State} (h : CtlInv s) : CtlMode s := by
  cases hbusy : s.ctl.busy
  · obtain ⟨hphase, hstage, hdirect, hpend⟩ := h.idleWhenFree hbusy
    have hctlen : s.ctl.ctlen = true := by
      rw [← Bool.not_eq_false, h.ctlenOff, hphase]
      decide
    exact .free hbusy hphase hstage hctlen ⟨hdirect, hpend, h.errorsOff (.inl (.inl hphase))⟩
  · cases hsend : s.insideSend
    · obtain ⟨hdirect, hmain, hstop⟩ := s.insideSend_eq_false_iff.mp hsend
      have hpend : s.pend.valid = false := by
        rw [← Bool.not_eq_true]
        intro hvalid
        exact absurd (h.pendWhere hvalid).2.1 (Bool.eq_false_iff.mp hsend)
      have hno : NoSend s := ⟨hdirect, hpend, h.errorsOff (.inr hsend)⟩
      have hctlenOff := h.ctlenOff
      have hbetween : s.xseq.stage ≠ .none → s.phase = .idle →
          (s.xseq.stage = .copyIn ∨ s.xseq.stage = .copyOut ∧ s.bank0.valid = true ∨ s.xseq.stage = .release) →
          CtlMode s := fun hstage hphase hone => by
        refine .between hbusy hphase hone ?_ (h.requestOk hstage) hno
        rw [← Bool.not_eq_false, hctlenOff, hphase]
        decide
      cases hstage : s.xseq.stage with
      | none =>
        refine .recover hbusy ?_ hstage hno
        obtain hphase | hphase | hphase := h.recoverOnly hsend
        · exact absurd (h.workWhenBusy hbusy) (by simp [hphase, hstage])
        · exact .inl ⟨hphase, by rw [← Bool.not_eq_false, hctlenOff, hphase]; decide⟩
        · exact .inr ⟨hphase, hctlenOff.mpr hphase⟩
      | copyIn => exact hbetween (by simp [hstage]) (h.plainStage (.inl hstage)) (.inl hstage)
      | copyOut =>
        exact hbetween (by simp [hstage]) (h.plainStage (.inr (.inl hstage)))
          (.inr (.inl ⟨hstage, h.mainValid (.inr hstage)⟩))
      | release => exact hbetween (by simp [hstage]) (h.plainStage (.inr (.inr hstage))) (.inr (.inr hstage))
      | main => exact absurd hstage hmain
      | stop => exact absurd hstage hstop
    · have hnotIdle : s.phase ≠ .idle := by
        obtain hdirect | hmain | hstop := s.insideSend_iff.mp hsend
        · exact (h.directSend hdirect).2
        · exact h.sendStage (.inl hmain)
        · exact h.sendStage (.inr hstop)
      refine .send hbusy ?_ ⟨hnotIdle, h.ctlenOff, fun hvalid => ?_, h.pendOrEvent, h.eventReset,
        fun hbefore => h.errorsOff (.inl hbefore), h.dataAttached⟩
      · cases hdirect : s.xseq.direct
        · obtain hd | hmain | hstop := s.insideSend_iff.mp hsend
          · exact absurd hd (Bool.eq_false_iff.mp hdirect)
          · exact .inr ⟨hdirect, h.requestOk (by simp [hmain]), .inl ⟨hmain, h.mainValid (.inl hmain)⟩⟩
          · exact .inr ⟨hdirect, h.requestOk (by simp [hstop]), .inr ⟨hstop, h.stopValid hstop⟩⟩
        · exact .inl ⟨hdirect, (h.directSend hdirect).1, h.directOk hdirect⟩
      · obtain ⟨hwhere, -, hslot⟩ := h.pendWhere hvalid
        exact ⟨hwhere, hslot⟩

/-- Outside a SEND and with a phase that no SEND has before its end, the invariant is about the stage alone. -/
theorem NoSend.ctlInv {s : State} (hno : NoSend s) (hphase : s.phase = .idle ∨ s.phase = .recovOff ∨ s.phase = .recovOn)
    (hctlen : s.ctl.ctlen = false ↔ s.phase = .recovOn)
    (hstage : s.xseq.stage ≠ .main ∧ s.xseq.stage ≠ .stop)
    (hplain : s.xseq.stage ≠ .none → s.phase = .idle ∧ s.requestInvalid = false)
    (hmain : s.xseq.stage = .copyOut → s.bank0.valid = true)
    (hbusy : s.ctl.busy = true ↔ s.phase ≠ .idle ∨ s.xseq.stage ≠ .none) : CtlInv s := by
  obtain ⟨hdirect, hpend, herrors⟩ := hno
  have hnotArmed : ¬s.phase.armed := by obtain h | h | h := hphase <;> simp [Phase.armed, h]
  have hnotData : ¬s.phase.dataOnly := by obtain h | h | h := hphase <;> simp [Phase.dataOnly, h]
  exact {
    idleWhenFree := fun hfree => by
      have hidle := mt hbusy.mpr (Bool.eq_false_iff.mp hfree)
      rw [not_or, not_not, not_not] at hidle
      exact ⟨hidle.1, hidle.2, hdirect, hpend⟩
    workWhenBusy := hbusy.mp
    sendStage := fun h => (h.elim hstage.1 hstage.2).elim
    plainStage := fun h => (hplain (by obtain h | h | h := h <;> simp [h])).1
    directSend := fun h => absurd h (Bool.eq_false_iff.mp hdirect)
    recoverOnly := fun _ => hphase
    ctlenOff := hctlen
    pendWhere := fun h => absurd h (Bool.eq_false_iff.mp hpend)
    pendOrEvent := fun h => absurd h hnotArmed
    eventReset := fun h => by obtain h' | h' | h' := hphase <;> simp [h'] at h
    errorsOff := fun _ => herrors
    dataAttached := fun h => absurd h hnotData
    directOk := fun h => absurd h (Bool.eq_false_iff.mp hdirect)
    requestOk := fun h => (hplain h).2
    mainValid := fun h => h.elim (fun h => absurd h hstage.1) hmain
    stopValid := fun h => absurd h hstage.2 }

/-- The mode gives the invariant. -/
theorem CtlMode.ctlInv {s : State} (h : CtlMode s) : CtlInv s := by
  cases h with
  | free hbusy hphase hstage hctlen hno =>
    exact hno.ctlInv (.inl hphase) (by simp [hctlen, hphase]) (by simp [hstage]) (by simp [hstage]) (by simp [hstage])
      (by simp [hbusy, hphase, hstage])
  | recover hbusy hphase hstage hno =>
    have hctlen : s.ctl.ctlen = false ↔ s.phase = .recovOn := by
      obtain ⟨hp, hc⟩ | ⟨hp, hc⟩ := hphase <;> simp [hp, hc]
    have hp : s.phase = .recovOff ∨ s.phase = .recovOn := hphase.imp And.left And.left
    exact hno.ctlInv (.inr hp) hctlen (by simp [hstage]) (by simp [hstage]) (by simp [hstage])
      (by obtain h | h := hp <;> simp [hbusy, h])
  | between hbusy hphase hstage hctlen hrequest hno =>
    have hone : s.xseq.stage ≠ .none ∧ s.xseq.stage ≠ .main ∧ s.xseq.stage ≠ .stop := by
      obtain h | ⟨h, -⟩ | h := hstage <;> simp [h]
    exact hno.ctlInv (.inl hphase) (by simp [hctlen, hphase]) hone.2 (fun _ => ⟨hphase, hrequest⟩)
      (fun h => by obtain h' | ⟨-, hv⟩ | h' := hstage <;> simp_all) (by simp [hbusy, hone.1])
  | send hbusy hcaller hin =>
    have hsend := hcaller.insideSend
    exact {
      idleWhenFree := fun h => absurd (hbusy.symm.trans h) (by decide)
      workWhenBusy := fun _ => .inl hin.notIdle
      sendStage := fun _ => hin.notIdle
      plainStage := fun h => by obtain ⟨-, h', -⟩ | ⟨-, -, ⟨h', -⟩ | ⟨h', -⟩⟩ := hcaller <;> simp [h'] at h
      directSend := fun h => by
        obtain ⟨-, h', -⟩ | ⟨h', -⟩ := hcaller
        · exact ⟨h', hin.notIdle⟩
        · exact absurd h (Bool.eq_false_iff.mp h')
      recoverOnly := fun h => absurd hsend (Bool.eq_false_iff.mp h)
      ctlenOff := hin.ctlenOff
      pendWhere := fun h => ⟨(hin.pendWhere h).1, hsend, (hin.pendWhere h).2⟩
      pendOrEvent := hin.pendOrEvent
      eventReset := hin.eventReset
      errorsOff := fun h => h.elim hin.errorsOff fun h => absurd hsend (Bool.eq_false_iff.mp h)
      dataAttached := hin.dataAttached
      directOk := fun h => by
        obtain ⟨-, -, h'⟩ | ⟨h', -⟩ := hcaller
        · exact h'
        · exact absurd h (Bool.eq_false_iff.mp h')
      requestOk := fun h => by
        obtain ⟨-, h', -⟩ | ⟨-, h', -⟩ := hcaller
        · exact absurd h' h
        · exact h'
      mainValid := fun h => by obtain ⟨-, h', -⟩ | ⟨-, -, ⟨h', hv⟩ | ⟨h', -⟩⟩ := hcaller <;> simp_all
      stopValid := fun h => by obtain ⟨-, h', -⟩ | ⟨-, -, ⟨h', -⟩ | ⟨-, hv⟩⟩ := hcaller <;> simp_all }

end Sys2Proof.Machine
end

section
/-! SUPPORT. Every step goes from one control mode to one of them (R50, R110 to R142), and so the whole invariant is kept and no
step stops. -/

namespace Sys2Proof.Machine

open Sys2Proof

/-! ## What depends on the descriptors alone -/

/-- The parameters and the descriptors of the two banks are the same. -/
structure SameRequest (s t : State) : Prop where
  params : t.params = s.params
  descriptor : ∀ c, (t.bank c).descriptor = (s.bank c).descriptor

/-- A bank's fields and lengths are those of its descriptor. -/
theorem Bank.fields_of_descriptor {b b' : Bank} (h : b'.descriptor = b.descriptor) :
    b'.valid = b.valid ∧ b'.hasData = b.hasData ∧ b'.mode = b.mode ∧ b'.blkcnt = b.blkcnt ∧ b'.buf = b.buf ∧
      b'.len = b.len ∧ b'.effLen = b.effLen := by
  cases b
  cases b'
  simp only [Bank.descriptor, Prod.mk.injEq] at h
  obtain ⟨rfl, -, rfl, rfl⟩ := h
  exact ⟨rfl, rfl, rfl, rfl, rfl, rfl, rfl⟩

namespace SameRequest

variable {s t : State} (h : SameRequest s t)
include h

theorem valid (c : Slot) : (t.bank c).valid = (s.bank c).valid :=
  (Bank.fields_of_descriptor (h.descriptor c)).1

theorem hasData (c : Slot) : (t.bank c).hasData = (s.bank c).hasData :=
  (Bank.fields_of_descriptor (h.descriptor c)).2.1

theorem sendOk (c : Slot) : t.sendOk c = s.sendOk c := by
  obtain ⟨hvalid, hdata, -, -, -, -, heff⟩ := Bank.fields_of_descriptor (h.descriptor c)
  simp only [State.sendOk, hvalid, hdata, heff, h.params]

theorem requestInvalid : t.requestInvalid = s.requestInvalid := by
  obtain ⟨hvalid, hdata, hmode, hcnt, hbuf, hlen, -⟩ := Bank.fields_of_descriptor (h.descriptor .main)
  obtain ⟨hvalid1, hdata1, -⟩ := Bank.fields_of_descriptor (h.descriptor .stop)
  simp only [State.bank] at *
  simp only [State.requestInvalid, State.mainDataInvalid, hvalid, hdata, hmode, hcnt, hbuf, hlen, hvalid1, hdata1,
    h.params]

theorem sendCaller (hxseq : t.xseq = s.xseq) (hcaller : SendCaller s) : SendCaller t := by
  have hvalid0 : t.bank0.valid = s.bank0.valid := h.valid .main
  have hvalid1 : t.bank1.valid = s.bank1.valid := h.valid .stop
  simpa only [SendCaller, hxseq, h.sendOk, h.requestInvalid, hvalid0, hvalid1] using hcaller

theorem curHasData (hxseq : t.xseq = s.xseq) : t.cur.hasData = s.cur.hasData := by
  rw [State.cur, State.cs_congr s t hxseq]
  exact h.hasData s.cs

end SameRequest

theorem EngineEffect.sameRequest {s t : State} (h : EngineEffect s t) : SameRequest s t := ⟨h.params, h.descriptor⟩

/-! ## The steps of ENGINE -/

/-- A phase that only a SEND has. -/
def Phase.ofSend (p : Phase) : Prop := p ≠ .idle ∧ p ≠ .recovOff ∧ p ≠ .recovOn

theorem CtlMode.inSend {s : State} (h : CtlMode s) (hphase : s.phase.ofSend) :
    s.ctl.busy = true ∧ s.ctl.ctlen = true ∧ SendCaller s ∧ InSend s := by
  obtain ⟨hidle, hoff, hon⟩ := hphase
  cases h with
  | free _ hp => exact absurd hp hidle
  | recover _ hp => exact (hp.elim (fun h => hoff h.1) fun h => hon h.1).elim
  | between _ hp => exact absurd hp hidle
  | send hbusy hcaller hin =>
    exact ⟨hbusy, by rw [← Bool.not_eq_false, hin.ctlenOff]; exact hon, hcaller, hin⟩

/-- Before S4 and after S7 no command is pending, S11 left out. -/
theorem InSend.not_pending {s : State} (h : InSend s) (hphase : ¬s.phase.armed ∧ s.phase ≠ .cleanup) :
    s.pend.valid = false := by
  rw [← Bool.not_eq_true]
  intro hvalid
  exact (h.pendWhere hvalid).1.elim hphase.1 hphase.2

/-- A micro-step of SEND that goes on to another one. -/
theorem CtlMode.advance {s t : State} (h : CtlMode s) (hphase : s.phase.ofSend) (heffect : EngineEffect s t)
    (hxseq : t.xseq = s.xseq) (hctl : t.ctl = s.ctl)
    (hin : s.ctl.ctlen = true → InSend s → t.cs = s.cs → t.cur.hasData = s.cur.hasData → InSend t) : CtlMode t := by
  obtain ⟨hbusy, hctlen, hcaller, hs⟩ := h.inSend hphase
  have hsame := heffect.sameRequest
  exact .send (hctl ▸ hbusy) (hsame.sendCaller hxseq hcaller)
    (hin hctlen hs (State.cs_congr s t hxseq) (hsame.curHasData hxseq))

/-- S11 leaves no error interrupt enabled (R123). -/
theorem cleanup_errors (ien : Word) : ien &&& ~~~errMask &&& irqBits &&& errMask = 0#32 := by
  have hswap : ien &&& ~~~errMask &&& irqBits &&& errMask = ien &&& irqBits &&& (errMask &&& ~~~errMask) := by ac_rfl
  rw [hswap, BitVec.and_not_self]
  exact BitVec.and_zero

/-- What the phases before S5 ask for. -/
theorem InSend.early {t : State}
    (hphase : t.phase = .evtReset ∨ t.phase = .dataProg ∨ t.phase = .dmaArm ∨ t.phase = .setPend)
    (hctlen : t.ctl.ctlen = true) (hpend : t.pend.valid = false) (hevent : t.phase ≠ .evtReset → t.evtSet = false)
    (herrors : t.ien &&& errMask = 0#32) (hdata : t.phase = .dataProg ∨ t.phase = .dmaArm → t.cur.hasData = true) :
    InSend t := by
  obtain hp | hp | hp | hp := hphase <;>
    refine ⟨?_, ?_, fun h => absurd h (Bool.eq_false_iff.mp hpend), ?_, fun h => hevent ?_, fun _ => herrors, ?_⟩ <;>
    simp_all [Phase.armed, Phase.dataOnly]

/-- What S5 to S7 ask for, the phases in which a command is pending until its event is signalled. -/
theorem InSend.pending {t : State} (hphase : t.phase.armed) (hctlen : t.ctl.ctlen = true)
    (hevent : t.pend.valid = !t.evtSet) (hslot : t.pend.valid = true → t.pend.slot = t.cs)
    (herrors : t.phase = .irqEn → t.ien &&& errMask = 0#32) : InSend t := by
  refine ⟨?_, ?_, fun h => ⟨.inl hphase, hslot h⟩, fun _ => hevent, ?_, fun h => herrors ?_, ?_⟩ <;>
    obtain hp | hp | hp := hphase <;> simp_all [Phase.beforeEnable, Phase.dataOnly]

/-- What the phases from S8 on ask for, and the first write of hard recovery. -/
theorem InSend.late {t : State}
    (hphase : t.phase = .classify ∨ t.phase = .drain ∨ t.phase = .drainExit ∨ t.phase = .recovOff ∨ t.phase = .cleanup)
    (hctlen : t.ctl.ctlen = true) (hpend : t.pend.valid = true → t.phase = .cleanup ∧ t.pend.slot = t.cs)
    (hdata : t.phase = .drain ∨ t.phase = .drainExit → t.cur.hasData = true) : InSend t := by
  refine ⟨?_, ?_, fun h => ⟨.inr (hpend h).1, (hpend h).2⟩, ?_, ?_, ?_, fun h => hdata ?_⟩ <;>
    obtain hp | hp | hp | hp | hp := hphase <;> simp_all [Phase.armed, Phase.beforeEnable, Phase.dataOnly]

/-- The micro-steps of SEND that stay inside it: S1 to S10. -/
theorem EngineEffect.ctlMode_of_microStep {s t : State} (h : EngineEffect s t) (hmode : CtlMode s)
    (hphase : s.phase.ofSend) (hlast : s.phase ≠ .cleanup) : CtlMode t := by
  have heffect := h
  have hofSend := hphase
  obtain ⟨hidle, hoff, hon⟩ := hphase
  cases h with
  | evtReset hp =>
    refine hmode.advance hofSend heffect (by simp) (by simp) fun hctlen hin hcs hdata => ?_
    have hpend := hin.not_pending (by simp [hp, Phase.armed])
    have herrors := hin.errorsOff (by simp [hp, Phase.beforeEnable])
    cases hd : s.cur.hasData
    · exact .early (by simp) (by simpa using hctlen) (by simpa using hpend) (fun _ => rfl) (by simpa using herrors)
        (by simp)
    · exact .early (by simp) (by simpa using hctlen) (by simpa using hpend) (fun _ => rfl) (by simpa using herrors)
        (fun _ => by rw [hd] at hdata; exact hdata)
  | dataProg hp buf gaps hbuf =>
    exact hmode.advance hofSend heffect rfl rfl fun hctlen hin hcs hdata =>
      .early (by simp) hctlen (hin.not_pending (by simp [hp, Phase.armed])) (fun _ => hin.eventReset (.inl hp))
        (hin.errorsOff (by simp [hp, Phase.beforeEnable])) (fun _ => hin.dataAttached (.inl hp))
  | dmaArm hp width =>
    exact hmode.advance hofSend heffect rfl rfl fun hctlen hin hcs hdata =>
      .early (by simp) hctlen (hin.not_pending (by simp [hp, Phase.armed])) (fun _ => hin.eventReset (.inr (.inl hp)))
        (hin.errorsOff (by simp [hp, Phase.beforeEnable])) (by simp)
  | setPend hp =>
    exact hmode.advance hofSend heffect rfl rfl fun hctlen hin hcs hdata =>
      .pending (.inl rfl) hctlen (by simp [hin.eventReset (.inr (.inr hp))]) (fun _ => hcs.symm)
        (fun _ => hin.errorsOff (by simp [hp, Phase.beforeEnable]))
  | irqEn hp =>
    exact hmode.advance hofSend heffect rfl rfl fun hctlen hin hcs hdata =>
      .pending (.inr (.inl rfl)) hctlen (hin.pendOrEvent (.inl hp)) (fun h => (hin.pendWhere h).2.trans hcs.symm)
        (by simp)
  | cmdStart hp cmdreg hsel =>
    exact hmode.advance hofSend heffect rfl rfl fun hctlen hin hcs hdata =>
      .pending (.inr (.inr rfl)) hctlen (hin.pendOrEvent (.inr (.inl hp)))
        (fun h => (hin.pendWhere h).2.trans hcs.symm) (by simp)
  | waitEvent hp hset =>
    refine hmode.advance hofSend heffect rfl rfl fun hctlen hin hcs hdata => ?_
    have hpend : s.pend.valid = false := by simpa [hset] using hin.pendOrEvent (.inr (.inr hp))
    exact .late (by simp) hctlen (by simp [hpend]) (by simp)
  | waitTimeout hp =>
    refine hmode.advance hofSend heffect (by simp) (by simp) fun hctlen hin hcs hdata =>
      .late (by simp) (by simpa using hctlen) (fun h => ⟨rfl, ?_⟩) (by simp)
    simp only [State.setBank_pend] at h ⊢
    exact (hin.pendWhere h).2.trans hcs.symm
  | waitHeld => exact hmode
  | classify hp =>
    refine hmode.advance hofSend heffect (by simp) (by simp) fun hctlen hin hcs hdata => ?_
    have hpend := hin.not_pending (by simp [hp, Phase.armed])
    cases hd : s.cur.hasData
    · exact .late (by simp) (by simpa using hctlen) (by simp [hpend]) (by simp)
    · exact .late (by simp) (by simpa using hctlen) (by simp [hpend]) (fun _ => by rw [hd] at hdata; exact hdata)
  | drained hp fail =>
    exact hmode.advance hofSend heffect rfl rfl fun hctlen hin hcs hdata =>
      .late (by simp) hctlen (by simp [hin.not_pending (by simp [hp, Phase.armed])])
        (fun _ => hin.dataAttached (.inr (.inr (.inl hp))))
  | draining hp =>
    exact hmode.advance hofSend heffect rfl rfl fun _ hin _ _ =>
      ⟨hin.notIdle, hin.ctlenOff, hin.pendWhere, hin.pendOrEvent, hin.eventReset, hin.errorsOff, hin.dataAttached⟩
  | drainFailed hp =>
    exact hmode.advance hofSend heffect (by simp) (by simp) fun hctlen hin hcs hdata =>
      .late (by simp) (by simpa using hctlen) (by simp [hin.not_pending (by simp [hp, Phase.armed])]) (by simp)
  | drainDone hp =>
    exact hmode.advance hofSend heffect rfl rfl fun hctlen hin hcs hdata =>
      .late (by simp) hctlen (by simp [hin.not_pending (by simp [hp, Phase.armed])]) (by simp)
  | cleanupDirect hp | cleanupExec hp => exact absurd hp hlast
  | recovOff hp => exact absurd hp hoff
  | recovOnSend hp | recovOnAlone hp => exact absurd hp hon
  | copyIn hp | copyOut hp | release hp | nothing hp => exact absurd hp hidle

/-! ## The end of SEND, hard recovery and the stages of EXEC -/

theorem CtlMode.inSend_of_cleanup {s : State} (h : CtlMode s) (hp : s.phase = .cleanup) :
    s.ctl.busy = true ∧ s.ctl.ctlen = true ∧ SendCaller s ∧ InSend s := h.inSend (by simp [Phase.ofSend, hp])

/-- A valid request has a command (R130). -/
theorem State.valid_of_request {s : State} (h : s.requestInvalid = false) (hmain : s.bank0.valid = false) :
    s.bank1.valid = true := by
  by_contra hstop
  simp [State.requestInvalid, hmain, hstop] at h

/-- `IDLE` in a busy block belongs to a stage of EXEC that is one step. -/
theorem CtlMode.between_of_stage {s : State} (h : CtlMode s) (hphase : s.phase = .idle) (hstage : s.xseq.stage ≠ .none) :
    s.ctl.busy = true ∧ (s.xseq.stage = .copyOut → s.bank0.valid = true) ∧ s.ctl.ctlen = true ∧
      s.requestInvalid = false ∧ NoSend s := by
  cases h with
  | free _ _ hnone => exact absurd hnone hstage
  | recover _ _ hnone => exact absurd hnone hstage
  | between hbusy _ hone hctlen hrequest hno =>
    exact ⟨hbusy, fun h => by obtain h' | ⟨-, hv⟩ | h' := hone <;> simp_all, hctlen, hrequest, hno⟩
  | send _ _ hin => exact absurd hphase hin.notIdle

/-- The block is not inside a SEND in RECOVER's phases, or it is in the hard recovery of one. -/
theorem CtlMode.recovering {s : State} (h : CtlMode s) (hphase : s.phase = .recovOff ∨ s.phase = .recovOn) :
    s.ctl.busy = true ∧
      (s.insideSend = false ∧ s.xseq.stage = .none ∧ NoSend s ∨ SendCaller s ∧ s.pend.valid = false) := by
  cases h with
  | free _ hp => simp [hp] at hphase
  | recover hbusy hp hstage hno =>
    exact ⟨hbusy, .inl ⟨s.insideSend_eq_false_iff.mpr ⟨hno.direct, by simp [hstage], by simp [hstage]⟩, hstage, hno⟩⟩
  | between _ hp => simp [hp] at hphase
  | send hbusy hcaller hin =>
    exact ⟨hbusy, .inr ⟨hcaller, hin.not_pending (by obtain hp | hp := hphase <;> simp [hp, Phase.armed])⟩⟩

/-- ENGINE goes from a control mode to one of them. -/
theorem EngineEffect.ctlMode {s t : State} (h : EngineEffect s t) (hmode : CtlMode s) : CtlMode t := by
  have hsame := h.sameRequest
  by_cases hmicro : s.phase.ofSend ∧ s.phase ≠ .cleanup
  · exact h.ctlMode_of_microStep hmode hmicro.1 hmicro.2
  · cases h with
    | cleanupDirect hp hdirect value =>
      obtain ⟨-, hctlen, hcaller, -⟩ := hmode.inSend_of_cleanup hp
      have hstage : s.xseq.stage = .none := by
        obtain ⟨-, hnone, -⟩ | ⟨hexec, -⟩ := hcaller
        · exact hnone
        · exact absurd hdirect (Bool.eq_false_iff.mp hexec)
      exact .free rfl rfl hstage hctlen ⟨rfl, rfl, cleanup_errors _⟩
    | cleanupExec hp hdirect =>
      obtain ⟨hbusy, hctlen, hcaller, -⟩ := hmode.inSend_of_cleanup hp
      obtain ⟨hd, -⟩ | ⟨-, hrequest, hcommand⟩ := hcaller
      · exact absurd hd (Bool.eq_false_iff.mp hdirect)
      · refine .between hbusy rfl ?_ hctlen (hsame.requestInvalid.trans hrequest) ⟨hdirect, rfl, cleanup_errors _⟩
        obtain ⟨hmain, hvalid⟩ | ⟨hstop, -⟩ := hcommand
        · exact .inr (.inl ⟨by simp [hmain], hvalid⟩)
        · exact .inr (.inr (by simp [hstop]))
    | recovOff hp =>
      obtain ⟨hbusy, ⟨-, hstage, hno⟩ | ⟨hcaller, hpend⟩⟩ := hmode.recovering (.inl hp)
      · exact .recover hbusy (.inr ⟨rfl, rfl⟩) hstage ⟨hno.direct, hno.pend, hno.errors⟩
      · refine .send hbusy (hsame.sendCaller rfl hcaller) ?_
        exact ⟨by simp, by simp, by simp [hpend], by simp [Phase.armed], by simp, by simp [Phase.beforeEnable],
          by simp [Phase.dataOnly]⟩
    | recovOnSend hp hsend =>
      obtain ⟨hbusy, ⟨hout, -⟩ | ⟨hcaller, hpend⟩⟩ := hmode.recovering (.inr hp)
      · exact absurd hsend (Bool.eq_false_iff.mp hout)
      · exact .send hbusy (hsame.sendCaller rfl hcaller) (.late (by simp) rfl (by simp [hpend]) (by simp))
    | recovOnAlone hp hsend =>
      obtain ⟨-, ⟨-, hstage, hno⟩ | ⟨hcaller, -⟩⟩ := hmode.recovering (.inr hp)
      · exact .free rfl rfl hstage rfl ⟨hno.direct, hno.pend, hno.errors⟩
      · exact absurd hcaller.insideSend (Bool.eq_false_iff.mp hsend)
    | copyIn hp hstage =>
      obtain ⟨hbusy, -, hctlen, hrequest, hno⟩ := hmode.between_of_stage hp (by simp [hstage])
      refine .send hbusy (.inr ⟨hno.direct, hsame.requestInvalid.trans hrequest, ?_⟩)
        (.early (by simp) hctlen hno.pend (by simp) hno.errors (by simp))
      cases hvalid : s.bank0.valid
      · exact .inr ⟨by simp, State.valid_of_request hrequest hvalid⟩
      · exact .inl ⟨rfl, rfl⟩
    | copyOut hp hstage =>
      obtain ⟨hbusy, -, hctlen, hrequest, hno⟩ := hmode.between_of_stage hp (by simp [hstage])
      have hrequest' := hsame.requestInvalid.trans hrequest
      cases hvalid : s.bank1.valid
      · simp only [hvalid] at hrequest'
        exact .between hbusy rfl (.inr (.inr rfl)) hctlen hrequest' ⟨hno.direct, hno.pend, hno.errors⟩
      · simp only [hvalid] at hrequest'
        exact .send hbusy (.inr ⟨hno.direct, hrequest', .inr ⟨rfl, hvalid⟩⟩)
          (.early (by simp) hctlen hno.pend (by simp) hno.errors (by simp))
    | release hp hstage =>
      obtain ⟨-, -, hctlen, -, hno⟩ := hmode.between_of_stage hp (by simp [hstage])
      exact .free rfl hp rfl hctlen ⟨hno.direct, hno.pend, hno.errors⟩
    | waitHeld | nothing => exact hmode
    | _ => exact absurd ⟨by simp [Phase.ofSend, *], by simp [*]⟩ hmicro

/-! ## The other agents -/

/-- The mode looks at the control registers and the descriptors alone. -/
theorem CtlMode.frame {s t : State} (h : CtlMode s) (hsame : SameRequest s t) (hphase : t.phase = s.phase)
    (hxseq : t.xseq = s.xseq) (hpend : t.pend = s.pend) (hevent : t.evtSet = s.evtSet) (hctl : t.ctl = s.ctl)
    (hien : t.ien &&& errMask = s.ien &&& errMask) : CtlMode t := by
  have hvalid : t.bank0.valid = s.bank0.valid := hsame.valid .main
  have hcs := State.cs_congr s t hxseq
  have hno : NoSend s → NoSend t := fun hno =>
    ⟨hxseq ▸ hno.direct, hpend ▸ hno.pend, hien.trans hno.errors⟩
  cases h with
  | free hb hp hs hc hn =>
    exact .free (hctl ▸ hb) (hphase.trans hp) (hxseq ▸ hs) (hctl ▸ hc) (hno hn)
  | recover hb hp hs hn => exact .recover (hctl ▸ hb) (by rwa [hphase, hctl]) (hxseq ▸ hs) (hno hn)
  | between hb hp hs hc hr hn =>
    exact .between (hctl ▸ hb) (hphase.trans hp) (by rwa [hxseq, hvalid]) (hctl ▸ hc) (hsame.requestInvalid.trans hr)
      (hno hn)
  | send hb hcaller hin =>
    refine .send (hctl ▸ hb) (hsame.sendCaller hxseq hcaller) ?_
    obtain ⟨h1, h2, h3, h4, h5, h6, h7⟩ := hin
    rw [← hsame.curHasData hxseq] at h7
    rw [← hien] at h6
    rw [← hphase, ← hctl] at h2
    rw [← hpend, ← hevent] at h4
    rw [← hpend, ← hcs] at h3
    rw [← hevent] at h5
    rw [← hphase] at h1 h3 h4 h5 h6 h7
    exact ⟨h1, h2, h3, h4, h5, h6, h7⟩

theorem SameRequest.of_banks {s t : State} (hparams : t.params = s.params) (hbanks : ∀ c, t.bank c = s.bank c) :
    SameRequest s t := ⟨hparams, fun c => congrArg Bank.descriptor (hbanks c)⟩

/-- The ISR's signal turns the pending command into a signalled one (R53, R176). -/
theorem CtlMode.signalled {s t : State} (h : CtlMode s) (hvalid : s.pend.valid = true) (hsame : SameRequest s t)
    (hphase : t.phase = s.phase) (hxseq : t.xseq = s.xseq) (hpend : t.pend.valid = false) (hevent : t.evtSet = true)
    (hctl : t.ctl = s.ctl) (hien : t.ien = s.ien) : CtlMode t := by
  cases h with
  | free _ _ _ _ hno => exact absurd hvalid (Bool.eq_false_iff.mp hno.pend)
  | recover _ _ _ hno => exact absurd hvalid (Bool.eq_false_iff.mp hno.pend)
  | between _ _ _ _ _ hno => exact absurd hvalid (Bool.eq_false_iff.mp hno.pend)
  | send hbusy hcaller hin =>
    have hctlen : t.ctl.ctlen = true := by
      rw [hctl, ← Bool.not_eq_false, hin.ctlenOff]
      obtain (hp | hp | hp) | hp := (hin.pendWhere hvalid).1 <;> simp [hp]
    refine .send (hctl ▸ hbusy) (hsame.sendCaller hxseq hcaller) ?_
    obtain harmed | hlast := (hin.pendWhere hvalid).1
    · refine .pending (hphase ▸ harmed) hctlen (by simp [hpend, hevent]) (by simp [hpend]) fun hp => ?_
      rw [hien]
      exact hin.errorsOff (by simp [← hphase, hp, Phase.beforeEnable])
    · exact .late (by simp [hphase, hlast]) hctlen (by simp [hpend]) (by simp [hphase, hlast])

/-- The enables that IRQEN can change are no error enables (R102). -/
theorem State.setCardIrqEnable_errors (s : State) (b : Bool) :
    (s.setCardIrqEnable b).ien &&& errMask = s.ien &&& errMask := by
  have herr : irqBits &&& errMask = errMask := rfl
  cases b
  · have hswap : s.ien &&& ~~~cardIrqBit &&& irqBits &&& errMask = s.ien &&& (~~~cardIrqBit &&& (irqBits &&& errMask)) := by
      ac_rfl
    exact hswap.trans rfl
  · change (s.ien ||| cardIrqBit) &&& irqBits &&& errMask = _
    rw [BitVec.and_assoc, herr, BitVec.and_or_distrib_right, show cardIrqBit &&& errMask = 0#32 from rfl, BitVec.or_zero]

/-- An operation on a free port leaves it free, or starts SEND, EXEC or RECOVER. -/
theorem ExecEffect.ctlMode {s t : State} {i : Instr} (h : ExecEffect s i t) (hbusy : s.ctl.busy = false)
    (hmode : CtlMode s) : CtlMode t := by
  cases hmode with
  | recover hb => exact absurd hb (Bool.eq_false_iff.mp hbusy)
  | between hb => exact absurd hb (Bool.eq_false_iff.mp hbusy)
  | send hb => exact absurd hb (Bool.eq_false_iff.mp hbusy)
  | free _ hphase hstage hctlen hno =>
    obtain ⟨hdirect, hpend, herrors⟩ := hno
    cases h with
    | send c hok => exact .send rfl (.inl ⟨rfl, hstage, hok⟩) (.early (.inl rfl) hctlen hpend
        (by simp [State.startSend]) herrors (by simp [State.startSend]))
    | requestAccepted hvalid => exact .between rfl hphase (.inl rfl) hctlen hvalid ⟨hdirect, hpend, herrors⟩
    | recover => exact .recover rfl (.inl ⟨rfl, hctlen⟩) hstage ⟨hdirect, hpend, herrors⟩
    | irqen b =>
      have herrors' := (s.setCardIrqEnable_errors b).trans herrors
      cases b <;> exact .free hbusy hphase hstage hctlen ⟨hdirect, hpend, herrors'⟩
    | write r =>
      cases r with
      | bank c br => cases c <;> exact .free hbusy hphase hstage hctlen ⟨hdirect, hpend, herrors⟩
      | codecst => simp only [State.writeReg]; split <;> exact .free hbusy hphase hstage hctlen ⟨hdirect, hpend, herrors⟩
      | _ => exact .free hbusy hphase hstage hctlen ⟨hdirect, hpend, herrors⟩
    | requestRefused =>
      rw [s.refuseRequest_record]
      exact .free hbusy hphase hstage hctlen ⟨hdirect, hpend, herrors⟩
    | _ => exact .free hbusy hphase hstage hctlen ⟨hdirect, hpend, herrors⟩

theorem resetStep_ctlMode (d : ResetDraw) (s : State) : CtlMode (resetStep d s) :=
  .free rfl rfl rfl rfl ⟨rfl, rfl, BitVec.zero_and⟩

/-- Every step of every agent goes from a control mode to one of them. -/
theorem AgentEffect.ctlMode {s t : State} {e : AgentStep} (h : AgentEffect s e t) (hmode : CtlMode s) : CtlMode t := by
  cases h with
  | performed _ hfree _ held heffect =>
    exact heffect.ctlMode hfree (hmode.frame (.of_banks rfl fun _ => rfl) rfl rfl rfl rfl rfl rfl)
  | engine heffect => exact heffect.ctlMode hmode
  | reset d => exact resetStep_ctlMode d s
  | isr complete hvalid =>
    cases complete
    · exact hmode.frame (.of_banks rfl fun _ => rfl) rfl rfl rfl rfl rfl rfl
    · exact hmode.signalled (hvalid rfl) (.of_banks rfl fun _ => rfl) rfl rfl rfl rfl rfl rfl
  | _ => exact hmode.frame (.of_banks rfl fun _ => rfl) rfl rfl rfl rfl rfl rfl

/-! ## The whole invariant -/

/-- Where S3 is next the transfer fits in `BUF` (R111, R130). -/
theorem CtlMode.effLen_le {s : State} (h : CtlMode s) (hphase : s.phase = .dmaArm) :
    s.cur.effLen ≤ s.params.bounceCap := by
  obtain ⟨-, -, hcaller, hin⟩ := h.inSend (by simp [Phase.ofSend, hphase])
  have hdata : s.cur.ctl.getLsbD 3 = true := hin.dataAttached (.inr (.inl hphase))
  obtain ⟨hdirect, -, hok⟩ | ⟨hdirect, hrequest, hcommand⟩ := hcaller
  · rw [← s.cs_of_direct hdirect] at hok
    exact ((s.sendOk_iff s.cs).mp hok).2 hdata
  · have hvalid := mt s.requestInvalid_iff.mpr (Bool.eq_false_iff.mp hrequest)
    obtain ⟨hmain, hmainValid⟩ | ⟨hstop, hstopValid⟩ := hcommand
    · rw [State.cur, s.cs_of_main hdirect hmain] at hdata ⊢
      have hlimits := fun hbad => hvalid (.inr (.inr ⟨hmainValid, hdata, hbad⟩))
      have hlen := Bank.len_of_data hdata
      cases hcrc : s.bank0.crc
      · rw [State.bank, Bank.effLen_of_not_crc hcrc]
        exact Nat.le_of_not_lt fun hlt => hlimits (.inl (hlen ▸ hlt))
      · have hstream := (s.bank0.crc_iff.mp hcrc).2.1
        rw [State.bank, Bank.effLen_of_crc hcrc]
        exact Nat.le_of_not_lt fun hlt => hlimits (.inr (.inr (.inl ⟨hstream, hlen ▸ hlt⟩)))
    · rw [State.cur, s.cs_of_not_main hdirect (by simp [hstop])] at hdata
      exact absurd (.inr (.inl ⟨hstopValid, hdata⟩)) hvalid

/-- Every step of every agent keeps the invariant. -/
theorem AgentEffect.inv {s t : State} {e : AgentStep} (h : AgentEffect s e t) (hinv : Inv s) : Inv t where
  mem := h.memInv hinv.mem
  reg := h.regInv hinv.reg hinv.ctl.mode.effLen_le
  ctl := (h.ctlMode hinv.ctl.mode).ctlInv

/-- The schedule is no part of the invariant. -/
theorem Inv.reschedule {s : State} (h : Inv s) (script : List AgentStep) (count : Nat) :
    Inv { s with script := script, freeCount := count } where
  mem := ⟨h.mem.bufCanonical, h.mem.bufRange, h.mem.hostCanonical, h.mem.hostRange⟩
  reg := ⟨h.reg.rawstaReserved, h.reg.ienReserved, h.reg.ctlReserved, h.reg.rspSelLegal, h.reg.spinBound,
    h.reg.cmdErrField, h.reg.dataErrField, h.reg.dmaBound⟩
  ctl := CtlMode.ctlInv (h.ctl.mode.frame (.of_banks rfl fun _ => rfl) rfl rfl rfl rfl rfl rfl)

/-- Settles O54: by everything a step can do, in the three parts of the invariant. -/
theorem stepKeepsInvariant : Obligations.StepKeepsInvariant := by
  intro s t hinv h
  obtain ⟨e, script, count, hstep⟩ := step_eq s
  exact (agentStep_effect (hstep.symm.trans h)).inv (hinv.reschedule script count)

/-- Settles O53: in the reset state the memories are empty and the port is free. -/
theorem resetMeetsInvariant : Obligations.ResetMeetsInvariant where
  mem := ⟨Mem.wf_nil, by simp [State.reset], Mem.wf_nil, by simp [State.reset]⟩
  reg := (regInv_iff _).mpr ⟨⟨BitVec.zero_and, BitVec.zero_and, by simp [State.reset], Nat.zero_le _, fun h => nomatch h⟩,
    fun c => by cases c <;> exact ⟨BitVec.zero_and, by simp [State.reset, State.bank, Bank.reset], .inl rfl⟩⟩
  ctl := (CtlMode.free rfl rfl rfl rfl ⟨rfl, rfl, BitVec.zero_and⟩).ctlInv

/-! ## No step stops -/

theorem stageStep_next {s : State} (hphase : s.phase = .idle) (hmode : CtlMode s) : ∃ t, stageStep s = .next t := by
  cases hstage : s.xseq.stage with
  | copyIn =>
    obtain ⟨-, -, -, hrequest, -⟩ := hmode.between_of_stage hphase (by simp [hstage])
    have hvalid := mt s.requestInvalid_iff.mpr (Bool.eq_false_iff.mp hrequest)
    simp only [stageStep, hstage]
    by_cases hdue : s.bank0.ctl.getLsbD 0 = true ∧ s.copies .toCard = true
    · exact ⟨_, stageCopyIn_of_copyIn (copyIn_of_valid hvalid hdue.1 hdue.2)⟩
    · exact ⟨_, stageCopyIn_of_copyIn (copyIn_of_nothing_due hdue)⟩
  | copyOut =>
    obtain ⟨-, hmain, -, hrequest, -⟩ := hmode.between_of_stage hphase (by simp [hstage])
    have hvalid := mt s.requestInvalid_iff.mpr (Bool.eq_false_iff.mp hrequest)
    simp only [stageStep, hstage]
    cases hdue : s.copies .fromCard
    · exact ⟨_, stageCopyOut_of_copyOut (copyOut_of_not_copies hdue) hphase⟩
    · exact ⟨_, stageCopyOut_of_copyOut (copyOut_of_valid hvalid (hmain hstage) hdue) hphase⟩
  | release | none | main | stop => simp [stageStep, hstage]

theorem engineStep_next {s : State} (hmode : CtlMode s) : ∃ t, engineStep s = .next t := by
  unfold engineStep
  cases hphase : s.phase
  case idle => exact stageStep_next hphase hmode
  all_goals exact ⟨_, rfl⟩

theorem dmaStep_next {s : State} (hbound : s.dmactl.en = true → s.dmalen.toNat ≤ s.params.bounceCap) (i : Nat) (v : Byte) :
    ∃ t, dmaStep i v s = .next t := by
  obtain h | ⟨h, -⟩ | ⟨-, hen, hout⟩ := dmaStep_cases i v s
  · exact ⟨_, h⟩
  · exact ⟨_, h⟩
  · obtain ⟨hon, hlt⟩ := (s.dmaEnabled_iff i).mp hen
    have hin : s.inBuf i 1 = true := Nat.ble_eq.mpr (hlt.trans_le (hbound hon))
    exact absurd hin (Bool.eq_false_iff.mp hout)

theorem acceptWord_next (w : OpWord) (s : State) : ∃ t, acceptWord w s = .next t := by
  obtain ⟨t, ht, -⟩ := acceptWord_effect w s
  exact ⟨t, ht⟩

theorem agentStep_next {s : State} (hinv : Inv s) (e : AgentStep) : ∃ t, agentStep e s = .next t := by
  cases e with
  | host w =>
    obtain ⟨-, h⟩ | ⟨-, h⟩ := presentWord_cases w s
    · exact ⟨_, h⟩
    · exact (acceptWord_next w s).imp fun _ => h.trans
  | accept k =>
    simp only [agentStep, acceptHeld]
    split
    · exact ⟨_, rfl⟩
    · split
      · exact acceptWord_next _ _
      · exact ⟨_, rfl⟩
  | engine => exact engineStep_next hinv.ctl.mode
  | dma i v => exact dmaStep_next hinv.reg.dmaBound i v
  | _ => exact ⟨_, rfl⟩

/-- Settles O55: the copies of a valid request and an armed channel stay within the memories. -/
theorem noStepStops : Obligations.NoStepStops := by
  intro s hinv
  obtain ⟨e, script, count, hstep⟩ := step_eq s
  rw [hstep]
  exact agentStep_next (hinv.reschedule script count) e

/-! ## ENGINE is never stuck -/

/-- A step of ENGINE that changes nothing is the held wait, or the block is free. -/
theorem EngineEffect.ne_of_busy {s t : State} (h : EngineEffect s t) (hmode : CtlMode s) (hbusy : s.ctl.busy = true)
    (hheld : ¬(s.phase = .wait ∧ s.evtSet = false ∧ s.wcnt.toNat < 5)) : t ≠ s := by
  have hphase : t.phase ≠ s.phase → t ≠ s := mt (congrArg State.phase)
  have hstage : t.xseq ≠ s.xseq → t ≠ s := mt (congrArg State.xseq)
  cases h with
  | waitHeld hp hclear hticks => exact absurd ⟨hp, hclear, hticks⟩ hheld
  | nothing hp hone =>
    cases hmode with
    | free hfree => exact absurd hbusy (Bool.eq_false_iff.mp hfree)
    | recover _ hp' => simp [hp] at hp'
    | between _ _ hstage' => simp [hone] at hstage'
    | send _ _ hin => exact absurd hp hin.notIdle
  | draining hp hne =>
    refine mt (congrArg fun u : State => u.spin.toNat) ?_
    have hless := toNat_sub_one hne
    simp only
    omega
  | release hp hst => exact hstage fun h => by have := congrArg XSeq.stage h; simp [hst] at this
  | copyOut hp hst => exact hstage fun h => by have := congrArg XSeq.stage h; simp [hst] at this; split at this <;> simp at this
  | evtReset hp | classify hp => exact hphase (by rw [hp]; simp only; split <;> simp)
  | _ => exact hphase (by simp [*])

/-- Settles O44: by everything a step of ENGINE can do. -/
theorem engineNeverStuck : Obligations.EngineNeverStuck := by
  intro s hinv
  have hmode := hinv.ctl.mode
  refine ⟨fun hbusy hheld => ?_, fun hfree => ?_⟩
  · obtain ⟨t, ht⟩ := engineStep_next hmode
    exact ⟨t, ht, (engineStep_effect ht).ne_of_busy hmode hbusy hheld⟩
  · obtain ⟨hphase, hstage, -⟩ := hinv.ctl.idleWhenFree hfree
    simp only [agentStep, engineStep, stageStep, hphase, hstage]

end Sys2Proof.Machine
end

section
/-! SUPPORT. The rules of the whole machine: one result for every accepted word (R50, R66), who writes descriptors and result
slots (R12, R17, R18, R101), and who sets and clears each flag (R38). -/

namespace Sys2Proof.Machine

open Sys2Proof

/-! ## One result for every accepted word (R66) -/

theorem State.results_of_result {s t : State} {code : PortCode} {value : BitVec 64}
    (h : t.out = .result code value :: s.out) : t.results = s.results + 1 := by
  simp [State.results, h]

theorem State.results_of_out {s t : State} (h : t.out = s.out) : t.results = s.results := by
  simp only [State.results, h]

theorem State.results_of_pulse {s t : State} {o : Output} (ho : o = .reqDone ∨ o = .cardIrq) (h : t.out = o :: s.out) :
    t.results = s.results := by
  obtain rfl | rfl := ho <;> simp [State.results, h]

/-- A pulse and a result of the same step (R130, R135). -/
theorem State.results_of_pulse_result {s t : State} {code : PortCode} {value : BitVec 64}
    (h : t.out = .result code value :: .reqDone :: s.out) : t.results = s.results + 1 := by
  simp [State.results, h]

theorem State.inFlight_of_busy {s : State} (h : s.ctl.busy = true) : s.inFlight = 1 := by
  simp only [State.inFlight, h, if_true]

theorem State.inFlight_of_free {s : State} (h : s.ctl.busy = false) : s.inFlight = 0 := by
  simp only [State.inFlight, h, Bool.false_eq_true, if_false]

theorem State.inFlight_congr {s t : State} (h : t.ctl.busy = s.ctl.busy) : t.inFlight = s.inFlight := by
  simp only [State.inFlight, h]

/-- An operation on a free port either gives its result or is in progress. -/
theorem ExecEffect.results {s t : State} {i : Instr} (h : ExecEffect s i t) (hfree : s.ctl.busy = false) :
    t.results + t.inFlight = s.results + 1 := by
  have hstarts : t.ctl.busy = true → t.out = s.out → t.results + t.inFlight = s.results + 1 := fun hbusy hout => by
    rw [State.results_of_out hout, State.inFlight_of_busy hbusy]
  have hanswers : t.ctl = s.ctl → t.results = s.results + 1 → t.results + t.inFlight = s.results + 1 :=
    fun hctl hone => by rw [hone, State.inFlight_of_free (hctl ▸ hfree)]
  cases h with
  | send | requestAccepted | recover => exact hstarts rfl rfl
  | refused | answer | overCeiling | trailer => exact hanswers rfl (State.results_of_result rfl)
  | write | irqen =>
    exact hanswers (by simp [State.deliver]) (State.results_of_result (by simp [State.deliver, State.emit]; exact ⟨rfl, rfl⟩))
  | requestRefused => exact hanswers s.refuseRequest_ctl (State.results_of_pulse_result s.refuseRequest_out)

/-- ENGINE delivers a result exactly when it releases the port. -/
theorem EngineEffect.results {s t : State} (h : EngineEffect s t) (hmode : CtlMode s) :
    t.results + t.inFlight = s.results + s.inFlight := by
  have hquiet : t.out = s.out → t.ctl.busy = s.ctl.busy → t.results + t.inFlight = s.results + s.inFlight :=
    fun hout hbusy => by rw [State.results_of_out hout, State.inFlight_congr hbusy]
  have hreleases : s.ctl.busy = true → t.ctl.busy = false → t.results = s.results + 1 →
      t.results + t.inFlight = s.results + s.inFlight := fun hbusy hfree hone => by
    rw [hone, State.inFlight_of_busy hbusy, State.inFlight_of_free hfree]
  cases h with
  | cleanupDirect hp => exact hreleases (hmode.inSend_of_cleanup hp).1 rfl (State.results_of_result rfl)
  | recovOnAlone hp => exact hreleases (hmode.recovering (.inr hp)).1 rfl (State.results_of_result rfl)
  | release hp hstage =>
    exact hreleases (hmode.between_of_stage hp (by simp [hstage])).1 rfl (State.results_of_pulse_result rfl)
  | evtReset | waitTimeout | classify | drainFailed => exact hquiet (by simp) (by simp)
  | _ => exact hquiet rfl rfl

/-- Settles O59: a word is accepted on a free port, and ENGINE releases the port with the result. -/
theorem oneResultPerWord : Obligations.OneResultPerWord := by
  intro s t e hinv he h
  have hquiet : ∀ {u : State}, u.out = s.out → u.ctl = s.ctl → u.results + u.inFlight = s.results + s.inFlight :=
    fun hout hctl => by rw [State.results_of_out hout, State.inFlight_congr (congrArg BlockCtl.busy hctl)]
  cases agentStep_effect h with
  | notAccepted hnone => rw [hnone]; exact hquiet rfl rfl
  | @illegal w _ hword held =>
    have hone := State.results_of_result (s := s) (t := ({ s with waiting := held } : State).refuseOp) rfl
    have hflight := State.inFlight_congr (s := s) (t := ({ s with waiting := held } : State).refuseOp) rfl
    rw [hword, hone, hflight]
    simp only [Option.isSome_some, if_true]
    omega
  | performed hword hfree _ held heffect =>
    have hsum := heffect.results hfree
    have hsame := State.results_of_out (s := s) (t := { s with waiting := held }) rfl
    rw [hword, State.inFlight_of_free hfree, hsum, hsame]
    rfl
  | engine heffect => exact heffect.results hinv.ctl.mode
  | isr =>
    simp only [State.acceptedWord]
    suffices hsame : State.results _ = s.results from congrArg (· + s.inFlight) hsame
    cases s.pendingSources.getLsbD bCardIrq
    · exact State.results_of_out (by simp)
    · exact State.results_of_pulse (.inr rfl) (by simp)
  | reset d => cases he
  | _ => exact hquiet rfl rfl

/-! ## Who writes the banks (R12, R17, R18, R101) -/

/-- A phase in which ENGINE writes a result slot is one of a SEND. -/
theorem CtlMode.insideSend_of_writesResult {s : State} (h : CtlMode s) (hphase : s.phase.writesResult) :
    s.insideSend = true := by
  obtain ⟨-, -, hcaller, -⟩ := h.inSend (by obtain hp | hp | hp | hp := hphase <;> simp [Phase.ofSend, hp])
  exact hcaller.insideSend

/-- Settles O60: by what ENGINE and an operation can do to a bank. -/
theorem bankWriters : Obligations.BankWriters := by
  intro s t e c hinv he h
  have huntouched : ∀ {u : State} {p q : Prop}, u.bank c = s.bank c →
      ((u.bank c).descriptor ≠ (s.bank c).descriptor → p) ∧ ((u.bank c).result ≠ (s.bank c).result → q) :=
    fun hbank => ⟨fun hne => absurd (congrArg Bank.descriptor hbank) hne,
      fun hne => absurd (congrArg Bank.result hbank) hne⟩
  cases agentStep_effect h with
  | performed hword _ hdecode held heffect =>
    obtain hsame | ⟨⟨n, v, rfl, hn⟩, hresult, -⟩ | ⟨rfl, hinvalid, hraise⟩ := heffect.bank c
    · exact huntouched hsame
    · exact ⟨fun _ => ⟨_, n, v, hword, hdecode, hn⟩, fun hne => absurd hresult hne⟩
    · refine ⟨fun hne => absurd (congrArg Bank.descriptor hraise) hne, fun _ => .inr ?_⟩
      exact ⟨_, hword, hdecode, s.requestInvalid_iff.mp hinvalid, congrArg (·.err.cmdErr) hraise⟩
  | engine heffect =>
    obtain hsame | ⟨hc, hphase, hdesc, -⟩ := heffect.bank c
    · exact huntouched hsame
    · exact ⟨fun hne => absurd hdesc hne,
        fun _ => .inl ⟨rfl, hinv.ctl.mode.insideSend_of_writesResult hphase, hc.symm⟩⟩
  | reset d => cases he
  | _ => exact huntouched rfl

/-! ## Who sets and clears each flag (R38) -/

/-- The flags of R38. -/
structure Flags where
  pend : Bool
  evt : Bool
  busy : Bool
  ctlen : Bool
  ovr : Bool
  data : Bool
  dma : Bool
  raw : Word

/-- The flags of a state. -/
def State.flags (s : State) : Flags :=
  { pend := s.pend.valid, evt := s.evtSet, busy := s.ctl.busy, ctlen := s.ctl.ctlen, ovr := s.ovr, data := s.dctl.en,
    dma := s.dmactl.en, raw := s.rawsta }

/-- A flag is set only where `sets` holds and cleared only where `clears` holds. -/
def Writers (old new : Bool) (sets clears : Prop) : Prop :=
  (old = false → new = true → sets) ∧ (old = true → new = false → clears)

theorem Writers.same (b : Bool) (p q : Prop) : Writers b b p q :=
  ⟨fun h h' => absurd (h.symm.trans h') (by decide), fun h h' => absurd (h.symm.trans h') (by decide)⟩

theorem Writers.set {b : Bool} {p q : Prop} (h : p) : Writers b true p q := ⟨fun _ _ => h, fun _ h' => (nomatch h')⟩

theorem Writers.clear {b : Bool} {p q : Prop} (h : q) : Writers b false p q := ⟨fun _ h' => (nomatch h'), fun _ _ => h⟩

/-- The flag table of R38: from `s`, a step of `e` may leave the flags `f`. -/
structure FlagRules (s : State) (e : AgentStep) (f : Flags) : Prop where
  pend : Writers s.pend.valid f.pend (e = .engine ∧ s.phase = .setPend)
    (e = .isr ∨ (e = .engine ∧ s.phase = .cleanup))
  evt : Writers s.evtSet f.evt (e = .isr) (e = .engine ∧ (s.phase = .evtReset ∨ s.phase = .wait))
  busy : Writers s.ctl.busy f.busy
    (∃ w i, s.acceptedWord e = some w ∧ decode w = .ok i ∧
      (i = .send .main ∨ i = .send .stop ∨ i = .exec ∨ i = .recover))
    (e = .engine ∧ (s.phase = .cleanup ∨ s.phase = .recovOn ∨ (s.phase = .idle ∧ s.xseq.stage = .release)))
  ctlen : Writers s.ctl.ctlen f.ctlen (e = .engine ∧ s.phase = .recovOn) (e = .engine ∧ s.phase = .recovOff)
  ovr : Writers s.ovr f.ovr
    (∃ w len addr, s.acceptedWord e = some w ∧ decode w = .ok (.crc16s4 len addr) ∧ 512 < len.toNat)
    (∃ w, s.acceptedWord e = some w ∧ decode w = .ok (.wrreg 0x30#8 1#32))
  data : Writers s.dctl.en f.data (e = .engine ∧ s.phase = .dmaArm) (e = .engine ∧ s.phase = .dataProg)
  dma : Writers s.dmactl.en f.dma (e = .engine ∧ s.phase = .dmaArm) (e = .engine ∧ s.phase = .drainExit)
  rawSet : ∀ j, s.rawsta.getLsbD j = false → f.raw.getLsbD j = true → ∃ acts, e = .bus acts
  rawSticky : ∀ j, j < 7 ∨ j = 9 → s.rawsta.getLsbD j = true → f.raw.getLsbD j = false →
    e = .isr ∨ (s.ctl.ctlen = false ∧ ∃ acts, e = .bus acts)
  rawRun : ∀ j, j = 7 ∨ j = 8 → s.rawsta.getLsbD j = true → f.raw.getLsbD j = false → ∃ acts, e = .bus acts

/-- A step that leaves every flag as it is keeps the table. -/
theorem FlagRules.same (s : State) (e : AgentStep) : FlagRules s e s.flags where
  pend := .same _ _ _
  evt := .same _ _ _
  busy := .same _ _ _
  ctlen := .same _ _ _
  ovr := .same _ _ _
  data := .same _ _ _
  dma := .same _ _ _
  rawSet _ h h' := absurd (h.symm.trans h') (by decide)
  rawSticky _ _ h h' := absurd (h.symm.trans h') (by decide)
  rawRun _ _ h h' := absurd (h.symm.trans h') (by decide)

@[simp] theorem State.setBank_flags (s : State) (c : Slot) (b : Bank) : (s.setBank c b).flags = s.flags := by
  cases c <;> rfl

theorem EngineEffect.flagRules {s t : State} (h : EngineEffect s t) : FlagRules s .engine t.flags := by
  have hsame := FlagRules.same s .engine
  cases h with
  | evtReset hp =>
    have hflags := s.setBank_flags s.cs { s.cur with err := ⟨.success, .success⟩ }
    rw [← hflags] at hsame
    exact { hsame with evt := .clear ⟨rfl, .inl hp⟩ }
  | waitTimeout | classify =>
    rw [← s.setBank_flags] at hsame
    exact hsame
  | drainFailed hp =>
    have hflags := s.setBank_flags s.cs { s.cur with err := { s.cur.err with cmdErr := .busy } }
    rw [← hflags] at hsame
    exact { hsame with dma := .clear ⟨rfl, hp⟩ }
  | dataProg hp => exact { hsame with data := .clear ⟨rfl, hp⟩ }
  | dmaArm hp => exact { hsame with data := .set ⟨rfl, hp⟩, dma := .set ⟨rfl, hp⟩ }
  | setPend hp => exact { hsame with pend := .set ⟨rfl, hp⟩ }
  | waitEvent hp => exact { hsame with evt := .clear ⟨rfl, .inr hp⟩ }
  | drainDone hp => exact { hsame with dma := .clear ⟨rfl, hp⟩ }
  | cleanupDirect hp => exact { hsame with pend := .clear (.inr ⟨rfl, hp⟩), busy := .clear ⟨rfl, .inl hp⟩ }
  | cleanupExec hp => exact { hsame with pend := .clear (.inr ⟨rfl, hp⟩) }
  | recovOff hp => exact { hsame with ctlen := .clear ⟨rfl, hp⟩ }
  | recovOnSend hp => exact { hsame with ctlen := .set ⟨rfl, hp⟩ }
  | recovOnAlone hp => exact { hsame with ctlen := .set ⟨rfl, hp⟩, busy := .clear ⟨rfl, .inr (.inl hp)⟩ }
  | release hp hstage => exact { hsame with busy := .clear ⟨rfl, .inr (.inr ⟨hp, hstage⟩)⟩ }
  | _ => exact hsame

/-- Only WRREG of `CODECST` with bit 0 clears `OVR`, and it writes 1. -/
theorem ExecEffect.flagRules {s t : State} {i : Instr} {e : AgentStep} {w : OpWord} {held : List OpWord}
    (h : ExecEffect { s with waiting := held } i t) (hword : s.acceptedWord e = some w) (hdecode : decode w = .ok i) :
    FlagRules s e t.flags := by
  have hsame := FlagRules.same s e
  cases h with
  | overCeiling hlen => exact { hsame with ovr := .set ⟨w, _, _, hword, hdecode, hlen⟩ }
  | @write v r haccess hreserved =>
    cases r with
    | codecst =>
      simp only [State.writeReg]
      split
      next hbit =>
        obtain rfl := (eq_one_iff_of_codecst_value hreserved).mpr hbit
        exact { hsame with ovr := .clear ⟨w, hword, hdecode⟩ }
      next => exact hsame
    | bank c br =>
      have hflags : ({ s with waiting := held } : State).flags = s.flags := rfl
      rw [← hflags, ← State.setBank_flags] at hsame
      exact hsame
    | _ => exact hsame
  | irqen b => cases b <;> exact hsame
  | send c => exact { hsame with busy := .set ⟨w, _, hword, hdecode, by cases c <;> simp⟩ }
  | requestAccepted => exact { hsame with busy := .set ⟨w, _, hword, hdecode, by simp⟩ }
  | recover => exact { hsame with busy := .set ⟨w, _, hword, hdecode, by simp⟩ }
  | requestRefused => rw [State.refuseRequest_record]; exact hsame
  | _ => exact hsame

/-- The flags of `IRQBITS` are bits 0 to 6 and 9 (R23). -/
theorem irqBits_getLsbD_of_sticky {j : Nat} (h : j < 7 ∨ j = 9) : irqBits.getLsbD j = true := by
  obtain h | rfl := h
  · interval_cases j <;> rfl
  · rfl

/-- The ISR acknowledges no running flag. -/
theorem State.pendingSources_running (s : State) {j : Nat} (h : j = 7 ∨ j = 8) : s.pendingSources.getLsbD j = false := by
  have hirq : irqBits.getLsbD j = false := by obtain rfl | rfl := h <;> rfl
  rw [State.pendingSources, BitVec.getLsbD_and, hirq, Bool.and_false]

/-- Every step but a reset keeps the flag table. -/
theorem AgentEffect.flagRules {s t : State} {e : AgentStep} (h : AgentEffect s e t) (he : e.isReset = false) :
    FlagRules s e t.flags := by
  cases h with
  | performed hword hfree hdecode held heffect =>
    exact heffect.flagRules hword hdecode
  | engine heffect => exact heffect.flagRules
  | isr complete hvalid =>
    have hsame := FlagRules.same s .isr
    have hkept : ∀ j, (s.rawsta &&& ~~~s.pendingSources).getLsbD j = true → s.rawsta.getLsbD j = true := fun j hj => by
      rw [BitVec.getLsbD_and, Bool.and_eq_true] at hj
      exact hj.1
    have hrun : ∀ j, j = 7 ∨ j = 8 → s.rawsta.getLsbD j = true → (s.rawsta &&& ~~~s.pendingSources).getLsbD j = true :=
      fun j hj hraw => by
        have hlt : j < 32 := by omega
        rw [BitVec.getLsbD_and, hraw, BitVec.getLsbD_not, s.pendingSources_running hj]
        simp [hlt]
    have hraw : FlagRules s .isr { s.flags with raw := s.rawsta &&& ~~~s.pendingSources } :=
      { hsame with
        rawSet := fun j hclear hset => absurd (hclear.symm.trans (hkept j hset)) (by decide)
        rawSticky := fun _ _ _ _ => .inl rfl
        rawRun := fun j hj hset hclear => absurd (hclear.symm.trans (hrun j hj hset)) (by decide) }
    cases complete
    · exact hraw
    · exact { hraw with pend := .clear (.inl rfl), evt := .set rfl }
  | @bus acts u hchange =>
    exact { FlagRules.same s (.bus acts) with
      rawSet := fun _ _ _ => ⟨acts, rfl⟩
      rawRun := fun _ _ _ _ => ⟨acts, rfl⟩
      rawSticky := fun j hj hset hclear => .inr ⟨by
        rw [← Bool.not_eq_true]
        intro hctlen
        have hkept := (and_not_eq_zero_iff _ _).mp (hchange.sticky hctlen) j
          (by rw [BitVec.getLsbD_and, hset, irqBits_getLsbD_of_sticky hj]; rfl)
        exact absurd (hclear.symm.trans hkept) (by decide), acts, rfl⟩ }
  | reset d => cases he
  | _ => exact FlagRules.same s _

/-- Settles O57: the flag table, flag by flag. -/
theorem flagWriters : Obligations.FlagWriters := by
  intro s t e he h
  obtain ⟨hpend, hevt, hbusy, hctlen, hovr, hdata, hdma, hset, hsticky, hrun⟩ := (agentStep_effect h).flagRules he
  exact ⟨hpend.1, hpend.2, hevt.1, hevt.2, hbusy.1, hbusy.2, hctlen.1, hctlen.2, hovr.1, hovr.2, hdata.1, hdata.2,
    hdma.1, hdma.2, hset, hsticky, hrun⟩

end Sys2Proof.Machine
end

section
/-! SUPPORT. The agents of the environment (R153, R175 to R177, R183, R185), reset (R36, R200), and the drain of SEND (R121). -/

namespace Sys2Proof.Machine

open Sys2Proof

/-! ## The ISR (R177) -/

/-- The acknowledge leaves no source pending. -/
theorem acknowledged_pending (raw enables mask : Word) :
    (raw &&& ~~~(raw &&& enables &&& mask)) &&& enables &&& mask = 0#32 := by
  refine BitVec.eq_of_getLsbD_eq fun j hj => ?_
  simp only [BitVec.getLsbD_and, BitVec.getLsbD_not, hj, decide_true, Bool.true_and, BitVec.getLsbD_zero]
  cases raw.getLsbD j <;> cases enables.getLsbD j <;> cases mask.getLsbD j <;> rfl

/-- Settles O46: an ISR step acknowledges every pending source, and signals a valid mark alone. -/
theorem isrQuietsTheRequest : Obligations.IsrQuietsTheRequest := by
  intro s t h
  cases h
  have hno : ¬(s.evtst ≠ s.evtst ∨ s.evtSet = true ∧ s.evtSet = false) := by simp
  cases hirq : s.irq
  · rw [isrStep_quiet hirq]
    exact ⟨hirq, fun h => absurd h hno⟩
  · rw [isrStep_record (complete := s.pend.valid && irqCompletes s.pendingSources (s.bank s.pend.slot).hasData) hirq
      Bool.and_eq_true_iff]
    refine ⟨?_, fun hsignal => ?_⟩
    · simp only [State.irq, State.pendingSources, acknowledged_pending, bne_self_eq_false]
    · cases hcomplete : s.pend.valid && irqCompletes s.pendingSources (s.bank s.pend.slot).hasData
      · rw [hcomplete] at hsignal
        exact absurd hsignal hno
      · exact ⟨(Bool.and_eq_true_iff.mp hcomplete).1, rfl⟩

/-! ## BUS (R185) -/

/-- The acts of BUS that bring `RAWSTA` to a value, write the response words, and clear `START` if asked. -/
def busActsTo (raw w0 w1 w2 w3 : Word) (stop : Bool) : List BusAct :=
  [.clearRaw (~~~raw), .raiseFlags raw, .setRunning (raw.getLsbD 7) (raw.getLsbD 8),
    .writeResp 0 w0, .writeResp 1 w1, .writeResp 2 w2, .writeResp 3 w3] ++ if stop then [.clearStart] else []

/-- The implemented flags are those that can request an interrupt and the two running flags (R23). -/
theorem rawBits_getLsbD (j : Nat) : rawBits.getLsbD j = (irqBits.getLsbD j || runMask.getLsbD j) := by
  have h : rawBits = irqBits ||| runMask := rfl
  rw [h, BitVec.getLsbD_or]

/-- No other flag is a running flag than `TXRUN` and `RXRUN`. -/
theorem runMask_getLsbD_of_ne {j : Nat} (h7 : j ≠ 7) (h8 : j ≠ 8) : runMask.getLsbD j = false := by
  have h : runMask = BitVec.twoPow 32 7 ||| BitVec.twoPow 32 8 := rfl
  rw [h, BitVec.getLsbD_or, BitVec.getLsbD_twoPow, BitVec.getLsbD_twoPow]
  simp [h7.symm, h8.symm]

theorem cond_twoPow_getLsbD_of_ne (b : Bool) {j k : Nat} (h : j ≠ k) :
    (bif b then BitVec.twoPow 32 k else 0#32).getLsbD j = false := by
  cases b
  · exact BitVec.getLsbD_zero
  · rw [cond_true, BitVec.getLsbD_twoPow]
    simp [h.symm]

/-- Raising flags and setting the running flags of a value brings `RAWSTA` to it, if no other flag is raised before. -/
theorem rawsta_raised_eq {r raw : Word} (hcover : r &&& irqBits &&& ~~~raw = 0#32) (hraw : raw &&& ~~~rawBits = 0#32) :
    ((r ||| raw &&& irqBits) &&& rawBits &&& ~~~runMask ||| (if raw.getLsbD 7 then 0x00000080#32 else 0#32) |||
      (if raw.getLsbD 8 then 0x00000100#32 else 0#32)) &&& rawBits = raw := by
  rw [and_not_eq_zero_iff] at hcover hraw
  have htx : (if raw.getLsbD 7 then 0x00000080#32 else 0#32) = bif raw.getLsbD 7 then BitVec.twoPow 32 7 else 0#32 := by
    cases raw.getLsbD 7 <;> rfl
  have hrx : (if raw.getLsbD 8 then 0x00000100#32 else 0#32) = bif raw.getLsbD 8 then BitVec.twoPow 32 8 else 0#32 := by
    cases raw.getLsbD 8 <;> rfl
  rw [htx, hrx]
  refine BitVec.eq_of_getLsbD_eq fun j hj => ?_
  by_cases h7 : j = 7
  · subst h7
    cases raw.getLsbD 7 <;> cases raw.getLsbD 8 <;> simp [runMask, rawBits]
  by_cases h8 : j = 8
  · subst h8
    cases raw.getLsbD 7 <;> cases raw.getLsbD 8 <;> simp [runMask, rawBits]
  have hcover := hcover j
  have hraw := hraw j
  rw [BitVec.getLsbD_and] at hcover
  rw [rawBits_getLsbD, runMask_getLsbD_of_ne h7 h8, Bool.or_false] at hraw
  simp only [BitVec.getLsbD_and, BitVec.getLsbD_or, BitVec.getLsbD_not, rawBits_getLsbD, runMask_getLsbD_of_ne h7 h8,
    cond_twoPow_getLsbD_of_ne _ h7, cond_twoPow_getLsbD_of_ne _ h8, hj, decide_true, Bool.or_false, Bool.not_false,
    Bool.and_true]
  cases hirq : irqBits.getLsbD j
  · rw [Bool.and_false, Bool.eq_false_iff.mpr fun hset => absurd (hirq.symm.trans (hraw hset)) (by decide)]
  · cases hr : r.getLsbD j
    · simp
    · simp [hcover (by rw [hr, hirq]; rfl)]

/-- Clearing every flag that a value lacks leaves none of them, unless a sticky flag of the active interface keeps. -/
theorem busAct_clearRaw {s : State} {raw : Word} (h : s.ctl.ctlen = false ∨ s.rawsta &&& irqBits &&& ~~~raw = 0#32) :
    ∃ r, busAct s (.clearRaw (~~~raw)) = { s with rawsta := r } ∧ r &&& irqBits &&& ~~~raw = 0#32 := by
  cases hon : s.ctl.ctlen
  · refine ⟨s.rawsta &&& ~~~(~~~raw) &&& rawBits, by simp only [busAct, hon]; rfl, (and_not_eq_zero_iff _ _).mpr fun j hj => ?_⟩
    simp only [BitVec.not_not, BitVec.getLsbD_and, Bool.and_eq_true] at hj
    exact hj.1.1.2
  · exact ⟨s.rawsta, by simp only [busAct, hon]; rfl, h.resolve_left (by simp [hon])⟩

/-- Settles O47: the bounds of BUS, and acts that reach every state within them. -/
theorem busLiberties : Obligations.BusLiberties := by
  refine ⟨fun acts s => ⟨_, rfl, ?_⟩, fun s raw w0 w1 w2 w3 stop hs hraw hsticky => ⟨busActsTo raw w0 w1 w2 w3 stop, ?_⟩⟩
  · have hchange := busStep_change acts s
    refine ⟨?_, hchange.cmdreg, hchange.sticky⟩
    exact congrArg (fun u : State => { u with
      rawsta := s.rawsta, hwresp0 := s.hwresp0, hwresp1 := s.hwresp1, hwresp2 := s.hwresp2,
      hwresp3 := s.hwresp3, cmdreg := s.cmdreg }) hchange.frame
  · obtain ⟨r, hclear, hcover⟩ := busAct_clearRaw hsticky
    have hraised := rawsta_raised_eq hcover hraw
    have hrun : busStep (busActsTo raw w0 w1 w2 w3 stop) s =
        busStep ((busActsTo raw w0 w1 w2 w3 stop).tail) { s with rawsta := r } := by rw [← hclear]; rfl
    simp only [agentStep]
    rw [hrun]
    cases stop
    · simpa [busStep, busActsTo, busAct, State.setRawsta] using hraised
    · simpa [busStep, busActsTo, busAct, State.setRawsta] using hraised

/-! ## DMA and TICK (R153, R183) -/

/-- An armed channel from the card writes the byte it moves. -/
theorem agentStep_dma_fromCard {s : State} {i : Nat} (v : Byte) (hen : s.dmactl.en = true) (hdir : s.dmactl.dir = .fromCard)
    (hi : i < s.dmalen.toNat) (hbound : s.dmalen.toNat ≤ s.params.bounceCap) :
    agentStep (.dma i v) s = .next { s with buf := Mem.write s.buf i v } := by
  have henabled : s.dmaEnabled i = true := (s.dmaEnabled_iff i).mpr ⟨hen, hi⟩
  have hin : s.inBuf i 1 = true := Nat.ble_eq.mpr (hi.trans_le hbound)
  simp only [agentStep, dmaStep, henabled, hin, hdir, if_true]

/-- Settles O48: by whether the channel moves a byte. -/
theorem dmaStep_holds : Obligations.DmaStep := by
  intro i v s hbound
  refine ⟨fun hen hdir hi => ?_, fun hnot => ?_⟩
  · exact ⟨_, agentStep_dma_fromCard v hen hdir hi (hbound hen), rfl, Mem.read_write s.buf i v⟩
  · obtain h | ⟨-, henabled, -, hdir⟩ | ⟨-, henabled, hin⟩ := dmaStep_cases i v s
    · exact h
    · obtain ⟨hen, hi⟩ := (s.dmaEnabled_iff i).mp henabled
      obtain h | h | h := hnot
      · exact absurd (hen.symm.trans h) (by decide)
      · exact absurd (hdir.symm.trans h) (by decide)
      · exact absurd hi (Nat.not_lt.mpr h)
    · obtain ⟨hen, hi⟩ := (s.dmaEnabled_iff i).mp henabled
      exact absurd (hin.symm.trans (Nat.ble_eq.mpr (hi.trans_le (hbound hen)))) (by decide)

/-- Settles O49: by whether the wait counts. -/
theorem tickStep_holds : Obligations.TickStep := by
  intro s
  by_cases hcount : s.phase = .wait ∧ s.wcnt.toNat < 255
  · obtain ⟨hwait, hlt⟩ := hcount
    refine ⟨_, congrArg Host.Outcome.next (if_pos ⟨hwait, hlt⟩), rfl, ?_⟩
    rw [if_pos hwait, BitVec.toNat_add]
    simp
    omega
  · refine ⟨_, congrArg Host.Outcome.next (if_neg hcount), rfl, ?_⟩
    have hlt := s.wcnt.isLt
    split
    next hwait =>
      have hfull : ¬s.wcnt.toNat < 255 := fun h => hcount ⟨hwait, h⟩
      omega
    next => rfl

/-! ## Reset (R36, R200) -/

/-- Settles O52: the table, and what a reset draws and keeps. -/
theorem resetValues : Obligations.ResetValues := by
  have htable : ResetTable State.reset :=
    ⟨⟨rfl, rfl⟩, ⟨rfl, rfl, rfl⟩, ⟨rfl, rfl⟩, ⟨rfl, rfl⟩, ⟨rfl, rfl⟩, ⟨rfl, rfl, rfl⟩, ⟨rfl, rfl, rfl, rfl⟩, ⟨rfl, rfl⟩⟩
  refine ⟨htable, fun d s => ⟨resetStep d s, rfl, ⟨htable.banks, htable.sequencer, htable.event, htable.interrupts,
    htable.command, htable.data, htable.control, htable.dma⟩, rfl, rfl, rfl, rfl,
    fun h => if_pos h, fun h => ?_, rfl, rfl, rfl, fun hlength a ha => ?_⟩⟩
  · exact if_neg (by rw [h]; decide)
  · have hbuf : (resetStep d s).buf = Mem.writeBytes [] 0 d.buf := by
      rw [resetStep, ← hlength, List.take_length]
    rw [hbuf, Mem.read_writeBytes, if_pos ⟨Nat.zero_le _, by omega⟩, Nat.sub_zero, List.getD_eq_getElem _ _ ha]

/-! ## The drain (R121) -/

theorem agentStep_engine_drain {s : State} (h : s.phase = .drain) : agentStep .engine s = .next (stepDrain s) := by
  simp only [agentStep, engineStep, h]

/-- Settles O32: by the running flags and the budget. -/
theorem stepDrain_holds : Obligations.StepDrain := by
  intro s hphase
  rw [agentStep_engine_drain hphase]
  refine ⟨fun hrun herr => ?_, fun hrun herr => ?_, fun hrun hspin => ?_, fun hrun hspin => ?_⟩
  · have hfail : (s.rawsta &&& errMask != 0#32) = true := bne_iff_ne.mpr herr
    exact congrArg Host.Outcome.next ((if_pos hrun).trans (by rw [hfail]; rfl))
  · have hclean : (s.rawsta &&& errMask != 0#32) = false := bne_eq_false_iff_eq.mpr herr
    exact congrArg Host.Outcome.next ((if_pos hrun).trans (by rw [hclean]; rfl))
  · exact congrArg Host.Outcome.next ((if_neg hrun).trans (if_pos hspin))
  · exact congrArg Host.Outcome.next ((if_neg hrun).trans (if_neg hspin))

theorem runAgents_cons_of_next {e : AgentStep} {s t : State} (h : agentStep e s = .next t) (es : List AgentStep) :
    runAgents (e :: es) s = runAgents es t := by
  simp only [runAgents, h]

theorem exists_of_runAgents_cons {e : AgentStep} {es : List AgentStep} {s t : State}
    (h : runAgents (e :: es) s = .next t) : ∃ u, agentStep e s = .next u ∧ runAgents es u = .next t := by
  cases hstep : agentStep e s with
  | next u => exact ⟨u, rfl, (runAgents_cons_of_next hstep es).symm.trans h⟩
  | fault f => simp [runAgents, hstep] at h
  | refused r => simp [runAgents, hstep] at h

theorem State.acceptedWord_of_busy {s : State} (h : s.ctl.busy = true) (e : AgentStep) : s.acceptedWord e = none := by
  cases e <;> simp [State.acceptedWord, h]

/-- What an ENGINE step of the drain does to the phase and the budget. -/
theorem stepDrain_phase_spin {s : State} (hphase : s.phase = .drain) :
    (stepDrain s).phase = .drain ∧ (stepDrain s).spin.toNat + 1 = s.spin.toNat ∨
    (stepDrain s).phase = .drainExit ∧ (stepDrain s).spin = s.spin := by
  obtain ⟨-, h⟩ | ⟨-, -, h⟩ | ⟨-, hspin, h⟩ := stepDrain_cases s <;> rw [h]
  · exact .inr ⟨rfl, rfl⟩
  · exact .inr ⟨rfl, rfl⟩
  · exact .inl ⟨hphase, toNat_sub_one hspin⟩

theorem stepDrain_ctl (s : State) : (stepDrain s).ctl = s.ctl := by
  obtain ⟨-, h⟩ | ⟨-, -, h⟩ | ⟨-, -, h⟩ := stepDrain_cases s <;> rw [h]

/-- No other agent moves a busy block. -/
theorem AgentEffect.drain_of_ne_engine {s t : State} {e : AgentStep} (h : AgentEffect s e t) (hbusy : s.ctl.busy = true)
    (hreset : e.isReset = false) (he : e ≠ .engine) : t.phase = s.phase ∧ t.spin = s.spin ∧ t.ctl = s.ctl := by
  cases h with
  | illegal hword | performed hword =>
    rw [State.acceptedWord_of_busy hbusy] at hword
    cases hword
  | engine => exact absurd rfl he
  | reset d => cases hreset
  | _ => exact ⟨rfl, rfl, rfl⟩

/-- A schedule with more ENGINE steps than the budget comes to the end of the drain. -/
theorem drain_ends {s t : State} {es : List AgentStep} (hphase : s.phase = .drain) (hbusy : s.ctl.busy = true)
    (hreset : ∀ e ∈ es, e.isReset = false) (hcount : s.spin.toNat + 1 ≤ es.count .engine)
    (hrun : runAgents es s = .next t) :
    ∃ before rest u, es = before ++ rest ∧ before.count .engine ≤ s.spin.toNat + 1 ∧
      runAgents before s = .next u ∧ u.phase = .drainExit := by
  induction es generalizing s with
  | nil => simp at hcount
  | cons e es ih =>
    obtain ⟨u, hstep, htail⟩ := exists_of_runAgents_cons hrun
    rw [List.forall_mem_cons] at hreset
    by_cases he : e = .engine
    · subst he
      cases (agentStep_engine_drain hphase).symm.trans hstep
      rw [List.count_cons_self] at hcount
      obtain ⟨hstay, hspent⟩ | ⟨hexit, -⟩ := stepDrain_phase_spin hphase
      · obtain ⟨before, rest, u, hes, hbound, hbefore, hu⟩ :=
          ih hstay (by rw [stepDrain_ctl, hbusy]) hreset.2 (by omega) htail
        refine ⟨.engine :: before, rest, u, congrArg _ hes, ?_, (runAgents_cons_of_next hstep _).trans hbefore, hu⟩
        rw [List.count_cons_self]
        omega
      · refine ⟨[.engine], es, _, rfl, ?_, runAgents_cons_of_next hstep [], hexit⟩
        simp
    · obtain ⟨hstay, hspin, hctl⟩ := (agentStep_effect hstep).drain_of_ne_engine hbusy hreset.1 he
      rw [List.count_cons_of_ne he, ← hspin] at hcount
      obtain ⟨before, rest, w, hes, hbound, hbefore, hw⟩ :=
        ih (hstay.trans hphase) (by rw [hctl, hbusy]) hreset.2 hcount htail
      refine ⟨e :: before, rest, w, congrArg _ hes, ?_, (runAgents_cons_of_next hstep _).trans hbefore, hw⟩
      rw [List.count_cons_of_ne he, ← hspin]
      exact hbound

/-- ENGINE alone ends the drain, and with a running flag raised it has spent the budget. -/
theorem drain_ends_alone {s : State} (hphase : s.phase = .drain) :
    ∃ k t, 1 ≤ k ∧ k ≤ s.spin.toNat + 1 ∧
      runAgents (List.replicate k .engine) s = .next t ∧ t.phase = .drainExit ∧
      (s.rawsta &&& 0x180#32 ≠ 0#32 → t.drainfail = true ∧ t.spin = 0#32) := by
  have hstep := agentStep_engine_drain hphase
  induction hn : s.spin.toNat generalizing s with
  | zero =>
    refine ⟨1, stepDrain s, le_rfl, le_rfl, runAgents_cons_of_next hstep [], ?_⟩
    obtain ⟨hrun, h⟩ | ⟨-, hspin, h⟩ | ⟨-, hspin, -⟩ := stepDrain_cases s
    · rw [h]; exact ⟨rfl, absurd hrun⟩
    · rw [h]; exact ⟨rfl, fun _ => ⟨rfl, hspin⟩⟩
    · exact absurd (BitVec.eq_of_toNat_eq hn) hspin
  | succ n ih =>
    obtain ⟨hrun, h⟩ | ⟨-, hspin, -⟩ | ⟨-, hspin, h⟩ := stepDrain_cases s
    · refine ⟨1, stepDrain s, le_rfl, by omega, runAgents_cons_of_next hstep [], ?_⟩
      rw [h]; exact ⟨rfl, absurd hrun⟩
    · simp [hspin] at hn
    · have hspent := toNat_sub_one hspin
      rw [h] at hstep
      obtain ⟨k, t, -, hk, hk', hexit, hfail⟩ :=
        ih (s := { s with spin := s.spin - 1#32 }) hphase (agentStep_engine_drain hphase)
          (Nat.succ_injective (hspent.trans hn))
      exact ⟨k + 1, t, by omega, by omega, (runAgents_cons_of_next hstep _).trans hk', hexit, hfail⟩

/-- Settles O33: step by step, then by induction on the schedule and on the budget. -/
theorem drainEnds : Obligations.DrainEnds := by
  refine ⟨fun s t e hphase hbusy hreset h => ⟨fun he => ?_, fun he => ?_⟩,
    fun s t es hphase hbusy hreset hcount hrun => drain_ends hphase hbusy hreset hcount hrun,
    fun s hphase => drain_ends_alone hphase⟩
  · obtain ⟨hstay, hspin, -⟩ := (agentStep_effect h).drain_of_ne_engine hbusy hreset he
    exact ⟨hstay.trans hphase, hspin⟩
  · subst he
    cases (agentStep_engine_drain hphase).symm.trans h
    exact stepDrain_phase_spin hphase

end Sys2Proof.Machine
end

section
/-! SUPPORT. Whole runs of SEND and EXEC (R110 to R136): the segments of a run as equations of states, and the runs put
together of them. -/

namespace Sys2Proof.Machine

open Sys2Proof

/-! ## Schedules -/

theorem runAgents_append {es fs : List AgentStep} {s t : State} (h : runAgents es s = .next t) :
    runAgents (es ++ fs) s = runAgents fs t := by
  induction es generalizing s with
  | nil => cases h; rfl
  | cons e es ih =>
    obtain ⟨u, hstep, htail⟩ := exists_of_runAgents_cons h
    exact (runAgents_cons_of_next hstep _).trans (ih htail)

theorem runAgents_replicate_succ {e : AgentStep} {s t : State} (h : agentStep e s = .next t) (n : Nat) :
    runAgents (List.replicate (n + 1) e) s = runAgents (List.replicate n e) t := runAgents_cons_of_next h _

/-! ## Programming (S1 to S6) -/

/-- The bank with both errors `Success`, as S1 leaves it (R112). -/
def Bank.cleared (b : Bank) : Bank := { b with err := ⟨.success, .success⟩ }

@[simp] theorem Bank.cleared_hasData (b : Bank) : b.cleared.hasData = b.hasData := rfl

/-- The state with the errors of the current slot `Success` and the event cleared, at a phase (R112). -/
def State.evtCleared (s : State) (p : Phase) : State :=
  { s.setBank s.cs s.cur.cleared with evtSet := false, evtst := 0#32, phase := p }

theorem State.evtCleared_cs (s : State) (p : Phase) : (s.evtCleared p).cs = s.cs :=
  State.cs_congr _ _ (s.setBank_xseq _ _)

theorem State.evtCleared_bank (s : State) (p : Phase) : (s.evtCleared p).bank s.cs = s.cur.cleared :=
  s.bank_setBank_self _ _

/-- The state with the data path and the channel enabled for a command (R113, R114). -/
def State.armed (s : State) (b : Bank) (buf : Mem) (gaps : List (List DmaMove)) : State :=
  { s with
    dctl := ⟨true, b.dir, b.mode⟩, dlen := BitVec.ofNat 32 b.effLen, dblk := BitVec.ofNat 32 b.effBlk,
    dmactl := ⟨true, b.dir, if b.mode = .stream then .w8 else .w32⟩, dmalen := BitVec.ofNat 32 b.effLen,
    phase := .setPend, buf := buf, duringCopy := gaps }

/-- The state in which the command of a slot is started and awaited (R115 to R117). -/
def State.awaiting (s : State) (c : Slot) (b : Bank) : State :=
  { s with
    pend := ⟨true, c⟩, ien := sendEnables s.ien b.hasData, cmdargreg := b.arg,
    cmdreg := (bit true ++ rspSel b.rk ++ b.opc : BitVec 9), wcnt := 0#8, phase := .wait }

/-- S1. -/
theorem agentStep_evtReset {s : State} {data : Bool} (hphase : s.phase = .evtReset) (hdata : s.cur.hasData = data) :
    agentStep .engine s = .next (s.evtCleared (if data then .dataProg else .setPend)) := by
  rw [agentStep_engine_evtReset hphase, stepEvtReset_record, hdata]
  rfl

/-- S2 and S3; only a trailer writes `BUF`. -/
theorem run_dataProg {s : State} {c : Slot} {b : Bank} (hphase : s.phase = .dataProg) (hcs : s.cs = c)
    (hb : s.bank c = b) :
    ∃ buf gaps, runAgents (List.replicate 2 .engine) s = .next (s.armed b buf gaps) ∧
      (b.crc = false → buf = s.buf ∧ gaps = s.duringCopy) := by
  subst hcs hb
  have hstep := agentStep_engine_dataProg hphase
  cases hcrc : s.cur.crc
  · rw [stepDataProg_of_not_crc hcrc] at hstep
    exact ⟨s.buf, s.duringCopy, (runAgents_replicate_succ hstep 1).trans
      (runAgents_cons_of_next (stepDmaArm_holds _ rfl) []), fun _ => ⟨rfl, rfl⟩⟩
  · rw [stepDataProg_of_crc hcrc] at hstep
    exact ⟨_, _, (runAgents_replicate_succ hstep 1).trans
      (runAgents_cons_of_next (stepDmaArm_holds _ rfl) []), fun h => nomatch h⟩

/-- S4 to S6. -/
theorem run_setPend {s : State} {c : Slot} {b : Bank} (hphase : s.phase = .setPend) (hcs : s.cs = c)
    (hb : s.bank c = b) : runAgents (List.replicate 3 .engine) s = .next (s.awaiting c b) := by
  subst hcs hb
  rw [runAgents_replicate_succ (agentStep_engine_setPend hphase), runAgents_replicate_succ (agentStep_engine_irqEn rfl),
    stepIrqEn, State.setIen_of_implemented _ (sendEnables_implemented _ _),
    runAgents_replicate_succ (agentStep_engine_cmdStart rfl)]
  rfl

/-- Without data S1 to S6 start the command. -/
theorem run_programming {s : State} (hphase : s.phase = .evtReset) (hdata : s.cur.hasData = false) :
    runAgents (List.replicate 4 .engine) s = .next ((s.evtCleared .setPend).awaiting s.cs s.cur.cleared) :=
  (runAgents_replicate_succ (agentStep_evtReset hphase hdata) 3).trans
    (run_setPend rfl (s.evtCleared_cs _) (s.evtCleared_bank _))

/-- With data S1 to S6 also enable the data path and the channel. -/
theorem run_programming_data {s : State} (hphase : s.phase = .evtReset) (hdata : s.cur.hasData = true) :
    ∃ buf gaps, runAgents (List.replicate 6 .engine) s =
        .next (((s.evtCleared .dataProg).armed s.cur.cleared buf gaps).awaiting s.cs s.cur.cleared) ∧
      (s.cur.crc = false → buf = s.buf ∧ gaps = s.duringCopy) := by
  obtain ⟨buf, gaps, hrun, hkept⟩ := run_dataProg rfl (s.evtCleared_cs .dataProg) (s.evtCleared_bank .dataProg)
  refine ⟨buf, gaps, (runAgents_replicate_succ (agentStep_evtReset hphase hdata) 5).trans ?_, ?_⟩
  · exact (runAgents_append hrun (fs := List.replicate 3 .engine)).trans
      (run_setPend rfl (s.evtCleared_cs .dataProg) (s.evtCleared_bank .dataProg))
  · simp only [State.evtCleared, State.setBank_buf, State.setBank_duringCopy] at hkept
    exact hkept

/-! ## The end of SEND (S7, S11) -/

/-- S7 with the event. -/
theorem agentStep_wait_event {s : State} (hphase : s.phase = .wait) (hset : s.evtSet = true) :
    agentStep .engine s = .next { s with st := s.evtst, evtSet := false, phase := .classify } :=
  (stepWait_holds s hphase).1 hset

/-- S11 of a direct SEND, the enables implemented: the errors of the slot are the result. -/
theorem agentStep_cleanup_direct {s : State} {b : Bank} (hphase : s.phase = .cleanup) (hdirect : s.xseq.direct = true)
    (hcur : s.cur = b) (hien : s.ien &&& irqBits = s.ien) :
    agentStep .engine s = .next { s with
      ien := s.ien &&& ~~~errMask, pend := { s.pend with valid := false }, phase := .idle,
      xseq := { s.xseq with direct := false }, ctl := { s.ctl with busy := false },
      out := .result .ok (b.err.word.setWidth 64) :: s.out } := by
  have hkeep : s.ien &&& ~~~errMask &&& irqBits = s.ien &&& ~~~errMask := by
    rw [BitVec.and_assoc, BitVec.and_comm (~~~errMask), ← BitVec.and_assoc, hien]
  rw [agentStep_engine_cleanup hphase, stepCleanup, if_pos hdirect, s.setIen_of_implemented hkeep, hcur]
  rfl

/-- Ticks in the wait, below the counter's end. -/
theorem run_ticks {s : State} (hphase : s.phase = .wait) {n : Nat} (hn : s.wcnt.toNat + n ≤ 255) :
    runAgents (List.replicate n .tick) s = .next { s with wcnt := s.wcnt + BitVec.ofNat 8 n } := by
  induction n generalizing s with
  | zero => simp [runAgents]
  | succ n ih =>
    have hstep : agentStep .tick s = .next { s with wcnt := s.wcnt + 1#8 } :=
      congrArg Host.Outcome.next (if_pos ⟨hphase, by omega⟩)
    have hone : (s.wcnt + 1#8).toNat = s.wcnt.toNat + 1 := by
      rw [BitVec.toNat_add]
      simp
      omega
    rw [runAgents_replicate_succ hstep, ih (s := { s with wcnt := s.wcnt + 1#8 }) hphase (by simp only [hone]; omega),
      Nat.add_comm n 1, ← BitVec.ofNat_add_ofNat, BitVec.add_assoc]

/-- The state in which SEND goes to its end, its slot's bank replaced. -/
def State.ending (s : State) (b : Bank) : State := { s.setBank s.cs b with phase := .cleanup }

theorem State.ending_cur (s : State) (b : Bank) : (s.ending b).cur = b := by
  rw [State.cur, State.cs_congr s (s.ending b) (s.setBank_xseq _ _)]
  exact s.bank_setBank_self _ _

/-- Five ticks without an event end a direct SEND (R118, R123). -/
theorem run_timeout {s : State} {b : Bank} (hphase : s.phase = .wait) (hclear : s.evtSet = false) (hwcnt : s.wcnt = 0#8)
    (hdirect : s.xseq.direct = true) (hb : s.cur = b) (hien : s.ien &&& irqBits = s.ien) :
    runAgents (List.replicate 5 .tick ++ List.replicate 2 .engine) s =
      .next { s.setBank s.cs { b with err := { b.err with cmdErr := .commandTimeout } } with
        wcnt := 5#8, ien := s.ien &&& ~~~errMask, pend := { s.pend with valid := false }, phase := .idle,
        xseq := { s.xseq with direct := false }, ctl := { s.ctl with busy := false },
        out := .result .ok (({ b.err with cmdErr := .commandTimeout } : ErrSlot).word.setWidth 64) :: s.out } := by
  subst hb
  have hticks := run_ticks hphase (n := 5) (by simp [hwcnt])
  rw [hwcnt] at hticks
  have hwait : agentStep .engine { s with wcnt := 5#8 } = .next (({ s with wcnt := 5#8 } : State).ending
      { s.cur with err := { s.cur.err with cmdErr := .commandTimeout } }) :=
    (stepWait_holds { s with wcnt := 5#8 } hphase).2.1 hclear (by simp)
  have hend := agentStep_cleanup_direct (s := ({ s with wcnt := 5#8 } : State).ending
    { s.cur with err := { s.cur.err with cmdErr := .commandTimeout } }) rfl
    (by simpa [State.ending] using hdirect) (State.ending_cur _ _) (by simpa [State.ending] using hien)
  rw [runAgents_append hticks]
  refine (runAgents_replicate_succ hwait 1).trans ((runAgents_cons_of_next hend []).trans ?_)
  simp only [runAgents, State.ending, State.setBank_record]
  rfl

/-- Of the enables of S5, those of the flags that end a command stay after S11 (R116, R123). -/
theorem sendEnables_without_errors (ien : Word) (hasData : Bool) :
    sendEnables ien hasData &&& ~~~errMask = ien &&& 0x200#32 ||| if hasData then 0x070#32 else 0x030#32 := by
  simp only [sendEnables, BitVec.and_or_distrib_right, BitVec.and_assoc, BitVec.or_assoc]
  cases hasData <;> rfl

theorem timeout_word : (⟨.commandTimeout, .success⟩ : ErrSlot).word.setWidth 64 = 2#64 := by decide

/-- What a direct SEND leaves that was started and gets no answer. -/
theorem times_out {s w : State} (hphase : w.phase = .wait) (hclear : w.evtSet = false) (hwcnt : w.wcnt = 0#8)
    (hxseq : w.xseq = s.xseq) (hdirect : s.xseq.direct = true) (hbank : w.bank s.cs = s.cur.cleared)
    (hien : w.ien = sendEnables s.ien s.cur.hasData) :
    ∃ t, runAgents (List.replicate 5 .tick ++ List.replicate 2 .engine) w = .next t ∧
      t.out = .result .ok 2#64 :: w.out ∧
      t.bank s.cs = { s.cur with err := ⟨.commandTimeout, .success⟩ } ∧
      t.phase = .idle ∧ t.ctl.busy = false ∧ t.pend.valid = false ∧
      t.ien = ((s.ien &&& 0x200#32) ||| if s.cur.hasData then 0x070#32 else 0x030#32) ∧
      t.dmactl = w.dmactl ∧ t.dctl = w.dctl := by
  have hcs : w.cs = s.cs := State.cs_congr s w hxseq
  have hrun := run_timeout hphase hclear hwcnt (hxseq ▸ hdirect) ((congrArg w.bank hcs).trans hbank)
    (by rw [hien, sendEnables_implemented])
  refine ⟨_, hrun, congrArg (Output.result .ok · :: w.out) timeout_word, ?_, rfl, rfl, rfl, ?_, ?_, ?_⟩
  · rw [← hcs]
    exact w.bank_setBank_self _ _
  · rw [← sendEnables_without_errors, ← hien]
  · exact w.setBank_dmactl _ _
  · exact w.setBank_dctl _ _

/-- Settles O36: programming with and without data, then the timeout. -/
theorem sendWithoutAnswerTimesOut : Obligations.SendWithoutAnswerTimesOut := by
  intro s hphase hdirect
  cases hdata : s.cur.hasData
  · have hbit : (s.bank s.cs).ctl.getLsbD 3 = false := hdata
    simp only [hbit, Bool.false_eq_true, if_false]
    obtain ⟨t, hrun, hout, hbank, hidle, hbusy, hpend, hien, hdma, hdctl⟩ :=
      times_out (s := s) (w := (s.evtCleared .setPend).awaiting s.cs s.cur.cleared) rfl rfl rfl
        (s.setBank_xseq _ _) hdirect (s.evtCleared_bank .setPend) (by simp [State.awaiting, State.evtCleared])
    refine ⟨t, ?_, ?_⟩
    · rw [List.append_assoc]
      exact (runAgents_append (run_programming hphase hdata)).trans hrun
    rw [hbank, hout, hien, hdma, hdctl, hdata]
    simp [State.awaiting, State.evtCleared, hidle, hbusy, hpend]
  · have hbit : (s.bank s.cs).ctl.getLsbD 3 = true := hdata
    simp only [hbit, if_true]
    obtain ⟨buf, gaps, hprogram, -⟩ := run_programming_data hphase hdata
    obtain ⟨t, hrun, hout, hbank, hidle, hbusy, hpend, hien, hdma, hdctl⟩ :=
      times_out (s := s) (w := ((s.evtCleared .dataProg).armed s.cur.cleared buf gaps).awaiting s.cs s.cur.cleared)
        rfl rfl rfl (s.setBank_xseq _ _) hdirect (s.evtCleared_bank .dataProg)
        (by simp [State.awaiting, State.armed, State.evtCleared])
    refine ⟨t, ?_, ?_⟩
    · rw [List.append_assoc]
      exact (runAgents_append hprogram).trans hrun
    rw [hbank, hout, hien, hdma, hdctl, hdata]
    simp [State.awaiting, State.armed, State.evtCleared, hidle, hbusy, hpend]

/-! ## The answer (R176, R119, R120) -/

/-- On no raised flag BUS raises exactly the sticky flags it names. -/
theorem busAct_raiseFlags_of_clear {s : State} {f : Word} (hraw : s.rawsta = 0#32) (hf : f &&& irqBits = f) :
    busAct s (.raiseFlags f) = { s with rawsta := f } := by
  have hkept : f &&& irqBits &&& rawBits = f := by
    have hsub : irqBits &&& rawBits = irqBits := rfl
    rw [BitVec.and_assoc, hsub, hf]
  simp only [busAct, State.setRawsta, hraw, BitVec.zero_or, hkept]

/-- The state in which the ISR has signalled the pending command for a flag (R176). -/
def State.signalled (s : State) (f : Word) : State :=
  { s with rawsta := 0#32, evtst := f, evtSet := true, pend := { s.pend with valid := false } }

/-- The state in which SEND classifies a flag that was signalled (R118, R176). -/
def State.eventTaken (s : State) (f : Word) : State :=
  { s.signalled f with st := f, evtSet := false, phase := .classify }

/-- In the wait BUS raises a flag, the ISR signals the pending command for it, and ENGINE takes the event. -/
theorem run_flag {s : State} {f : Word} (hphase : s.phase = .wait) (hraw : s.rawsta = 0#32) (hf : f &&& irqBits = f)
    (henabled : f &&& s.ien &&& irqBits = f) (hne : f ≠ 0#32) (hcard : f.getLsbD bCardIrq = false)
    (hvalid : s.pend.valid = true) (hcompletes : irqCompletes f (s.bank s.pend.slot).hasData = true) :
    runAgents [.bus [.raiseFlags f], .isr, .engine] s = .next (s.eventTaken f) := by
  have hbus : agentStep (.bus [.raiseFlags f]) s = .next { s with rawsta := f } :=
    congrArg Host.Outcome.next (busAct_raiseFlags_of_clear hraw hf)
  have hsources : ({ s with rawsta := f } : State).pendingSources = f := henabled
  have hirq : ({ s with rawsta := f } : State).irq = true := (State.irq_eq_true_iff _).mpr (hsources.symm ▸ hne)
  have hisr : agentStep .isr { s with rawsta := f } = .next (s.signalled f) := by
    refine congrArg Host.Outcome.next ((isrStep_record (complete := true) hirq
      (by rw [hsources]; exact iff_of_true rfl ⟨hvalid, hcompletes⟩)).trans ?_)
    rw [hsources, hcard, BitVec.and_not_self]
    rfl
  exact (runAgents_cons_of_next hbus _).trans ((runAgents_cons_of_next hisr _).trans
    (runAgents_cons_of_next (agentStep_wait_event (s := s.signalled f) hphase rfl) []))

/-- A flag that S5 enables requests an interrupt. -/
theorem and_sendEnables {f : Word} {hasData : Bool} (ien : Word) (hcard : f &&& cardIrqBit = 0#32)
    (henabled : f &&& (errMask ||| (cmdFlagBits ||| if hasData then dataEndBit else 0#32)) = f) (hf : f &&& irqBits = f) :
    f &&& sendEnables ien hasData &&& irqBits = f := by
  rw [sendEnables, BitVec.or_assoc, BitVec.or_assoc, BitVec.and_or_distrib_left, ← BitVec.and_assoc, BitVec.and_comm f ien,
    BitVec.and_assoc, hcard, BitVec.and_zero, BitVec.zero_or, henabled, hf]

/-- A status without an error flag. -/
theorem getLsbD_of_and_errMask {st : Word} (h : st &&& errMask = 0#32) {j : Nat} (hj : errMask.getLsbD j = true) :
    st.getLsbD j = false := by
  have hbit := congrArg (BitVec.getLsbD · j) h
  simpa [hj] using hbit

/-- A status without an error flag classifies as `Success` (R120). -/
theorem Bank.classify_takeResponse_success {b : Bank} {st : Word} (hst : st &&& errMask = 0#32)
    (hb : b.err.dataErr = .success) (w0 w1 w2 w3 : Word) :
    (b.takeResponse w0 w1 w2 w3).classify st = { b.takeResponse w0 w1 w2 w3 with err := ⟨.success, .success⟩ } := by
  have hcmd : ∀ rk, classifyCmd st rk = .success := fun rk => by
    simp [classifyCmd, getLsbD_of_and_errMask hst (j := bCtimeout) rfl, getLsbD_of_and_errMask hst (j := bCcrcFail) rfl]
  have hdata : classifyData st = .success := by
    simp [classifyData, getLsbD_of_and_errMask hst (j := bDtimeout) rfl, getLsbD_of_and_errMask hst (j := bDcrcFail) rfl]
  have hkept : (b.takeResponse w0 w1 w2 w3).err.dataErr = .success := by
    rw [Bank.takeResponse]
    split <;> exact hb
  rw [Bank.classify, hcmd, hdata, hkept, ite_self]

/-- S8. -/
theorem agentStep_classify {s : State} {c : Slot} {b : Bank} {data : Bool} (hphase : s.phase = .classify) (hcs : s.cs = c)
    (hb : s.bank c = b) (hdata : b.hasData = data) (hst : s.st &&& errMask = 0#32) (herr : b.err.dataErr = .success) :
    agentStep .engine s =
      .next { s.setBank c { b.takeResponse s.hwresp0 s.hwresp1 s.hwresp2 s.hwresp3 with err := ⟨.success, .success⟩ } with
        spin := if data then s.params.drainSpinMax else s.spin, phase := if data then .drain else .cleanup } := by
  subst hcs hb hdata
  rw [agentStep_engine_classify hphase, stepClassify_record, Bank.classify_takeResponse_success hst herr]

/-- S8 without data goes to the end. -/
theorem agentStep_classify_ending {s : State} {b : Bank} (hphase : s.phase = .classify) (hb : s.cur = b)
    (hdata : b.hasData = false) (hst : s.st &&& errMask = 0#32) (herr : b.err.dataErr = .success) :
    agentStep .engine s =
      .next (s.ending { b.takeResponse s.hwresp0 s.hwresp1 s.hwresp2 s.hwresp3 with err := ⟨.success, .success⟩ }) := by
  rw [agentStep_classify hphase rfl hb hdata hst herr, State.ending, State.setBank_record]
  rfl

/-- A direct SEND without data that is answered well (R118 to R120, R123, R176). -/
theorem run_answer {s : State} {b : Bank} {ien : Word} (v : Word) (hphase : s.phase = .wait) (hpend : s.pend = ⟨true, s.cs⟩)
    (hb : s.cur = b) (hdirect : s.xseq.direct = true) (hdata : b.hasData = false) (herr : b.err.dataErr = .success)
    (hraw : s.rawsta = 0#32) (hien : s.ien = sendEnables ien false) :
    runAgents ([.bus [.writeResp 0 v, .raiseFlags 0x10#32], .isr] ++ List.replicate 3 .engine) s =
      .next { s.setBank s.cs { b.takeResponse v s.hwresp1 s.hwresp2 s.hwresp3 with err := ⟨.success, .success⟩ } with
        hwresp0 := v, rawsta := 0#32, evtst := 0x10#32, evtSet := false, st := 0x10#32, ien := s.ien &&& ~~~errMask,
        pend := { s.pend with valid := false }, phase := .idle, xseq := { s.xseq with direct := false },
        ctl := { s.ctl with busy := false }, out := .result .ok 0#64 :: s.out } := by
  have hslot : (s.bank s.pend.slot).hasData = false := by rw [hpend]; exact (congrArg Bank.hasData hb).trans hdata
  have hst : 0x10#32 &&& errMask = 0#32 := by decide
  have hflag := run_flag (s := { s with hwresp0 := v }) (f := 0x10#32) hphase hraw rfl
    (by rw [hien]; exact and_sendEnables ien rfl rfl rfl) (by decide) rfl (by rw [hpend])
    (congrArg (irqCompletes 0x10#32) hslot)
  have hclassify := agentStep_classify_ending (s := ({ s with hwresp0 := v } : State).eventTaken 0x10#32) rfl hb hdata hst
    herr
  have hend := agentStep_cleanup_direct (s := (({ s with hwresp0 := v } : State).eventTaken 0x10#32).ending
    { b.takeResponse v s.hwresp1 s.hwresp2 s.hwresp3 with err := ⟨.success, .success⟩ }) rfl
    (by simpa [State.ending, State.eventTaken, State.signalled] using hdirect) (State.ending_cur _ _)
    (by simp [State.ending, State.eventTaken, State.signalled, hien, sendEnables_implemented])
  refine (runAgents_append (fs := List.replicate 2 .engine) hflag).trans ((runAgents_replicate_succ hclassify 1).trans
    ((runAgents_cons_of_next hend []).trans ?_))
  simp only [runAgents, State.ending, State.setBank_record]
  rfl

/-- What a long response reads, by the bits of the response kind (R119). -/
theorem Bank.takeResponse_words (b : Bank) (w0 w1 w2 w3 : Word) :
    (b.takeResponse w0 w1 w2 w3).resp0 = w0 ∧
    ((b.takeResponse w0 w1 w2 w3).resp1, (b.takeResponse w0 w1 w2 w3).resp2, (b.takeResponse w0 w1 w2 w3).resp3) =
      if b.ctl.extractLsb' 1 2 = 3#2 then (w1, w2, w3) else (b.resp1, b.resp2, b.resp3) := by
  simp only [← b.rk_eq_long_iff, Bank.takeResponse]
  split <;> exact ⟨rfl, rfl⟩

/-- What a direct SEND without data leaves that was started and is answered well. -/
theorem answers {s w : State} {ien : Word} (v : Word) (hphase : w.phase = .wait) (hpend : w.pend = ⟨true, s.cs⟩)
    (hxseq : w.xseq = s.xseq) (hdirect : s.xseq.direct = true) (hdata : s.cur.hasData = false)
    (hbank : w.bank s.cs = s.cur.cleared) (hraw : w.rawsta = 0#32) (hien : w.ien = sendEnables ien false) :
    ∃ t, runAgents ([.bus [.writeResp 0 v, .raiseFlags 0x10#32], .isr] ++ List.replicate 3 .engine) w = .next t ∧
      t.out = .result .ok 0#64 :: w.out ∧
      t.bank s.cs = { s.cur.cleared.takeResponse v w.hwresp1 w.hwresp2 w.hwresp3 with err := ⟨.success, .success⟩ } ∧
      t.phase = .idle ∧ t.ctl.busy = false ∧ t.pend.valid = false ∧ t.evtSet = false ∧ t.rawsta = 0#32 ∧
      t.ien = ((ien &&& 0x200#32) ||| 0x030#32) ∧
      t.dctl = w.dctl ∧ t.dlen = w.dlen ∧ t.dblk = w.dblk ∧ t.dmactl = w.dmactl ∧ t.dmalen = w.dmalen ∧
      t.buf = w.buf := by
  have hcs : w.cs = s.cs := State.cs_congr s w hxseq
  have hrun := run_answer v hphase (hcs ▸ hpend) ((congrArg w.bank hcs).trans hbank) (hxseq ▸ hdirect) hdata rfl hraw hien
  refine ⟨_, hrun, rfl, ?_, rfl, rfl, rfl, rfl, rfl, ?_, w.setBank_dctl _ _, w.setBank_dlen _ _, w.setBank_dblk _ _,
    w.setBank_dmactl _ _, w.setBank_dmalen _ _, w.setBank_buf _ _⟩
  · rw [← hcs]
    exact w.bank_setBank_self _ _
  · rw [hien]
    exact sendEnables_without_errors ien false

/-- Settles O37: programming without data, then the answer. -/
theorem sendWithAnswerSucceeds : Obligations.SendWithAnswerSucceeds := by
  intro s v hphase hdirect hdata hraw
  replace hdata : s.cur.hasData = false := hdata
  obtain ⟨t, hrun, hout, hbank, hidle, hbusy, hpend, hevt, hclear, hien, hdctl, hdlen, hdblk, hdmactl, hdmalen, hbuf⟩ :=
    answers (s := s) (w := (s.evtCleared .setPend).awaiting s.cs s.cur.cleared) (ien := s.ien) v rfl rfl
      (s.setBank_xseq _ _) hdirect hdata (s.evtCleared_bank .setPend) ((s.setBank_rawsta _ _).trans hraw)
      (by simp [State.awaiting, State.evtCleared, hdata])
  obtain ⟨hresp0, hresp⟩ := s.cur.cleared.takeResponse_words v s.hwresp1 s.hwresp2 s.hwresp3
  refine ⟨t, ?_, ?_⟩
  · rw [List.append_assoc]
    exact (runAgents_append (run_programming hphase hdata)).trans hrun
  simp only [State.awaiting, State.evtCleared, State.setBank_hwresp1, State.setBank_hwresp2, State.setBank_hwresp3,
    State.setBank_out, State.setBank_dctl, State.setBank_dlen, State.setBank_dblk, State.setBank_dmactl,
    State.setBank_dmalen, State.setBank_buf] at hbank hout hdctl hdlen hdblk hdmactl hdmalen hbuf
  rw [hbank]
  exact ⟨hout, rfl, hresp0, hresp, hidle, hbusy, hpend, hevt, hclear, hien, hdctl, hdlen, hdblk, hdmactl, hdmalen, hbuf⟩

end Sys2Proof.Machine
end

section
/-! SUPPORT. An EXEC that reads from the card (R130 to R136, R153): the copies around it, the bytes the channel moves, and the
run put together. -/

namespace Sys2Proof.Machine

open Sys2Proof

/-! ## From acceptance to the wait -/

/-- An EXEC that began in `s` with data from the card awaits its event, `buf` in `BUF`. -/
structure Receiving (s w : State) (buf : Mem) : Prop where
  phase : w.phase = .wait
  direct : w.xseq.direct = false
  stage : w.xseq.stage = .main
  pend : w.pend = ⟨true, .main⟩
  ien : ∃ ien, w.ien = sendEnables ien true
  rawsta : w.rawsta = 0#32
  bank0 : w.bank0 = s.bank0.cleared
  bank1 : w.bank1 = s.bank1
  armed : w.dmactl.en = true ∧ w.dmactl.dir = .fromCard
  dmalen : w.dmalen.toNat = s.bank0.len
  buf : w.buf = buf
  hostmem : w.hostmem = s.hostmem
  params : w.params = s.params
  out : w.out = s.out

/-- Data from the card has no trailer (R127). -/
theorem Bank.crc_of_fromCard {b : Bank} (h : b.ctl.getLsbD 4 = true) : b.crc = false := by
  have hdir : b.dir = .fromCard := if_pos h
  simp [Bank.crc, hdir]

/-- A transfer length fits the length registers (R15). -/
theorem Bank.len_lt (b : Bank) : b.len < 2 ^ 32 := by
  have hcnt := (b.blk.extractLsb' 16 16).isLt
  have hsize := (b.blk.extractLsb' 0 16).isLt
  unfold Bank.len Bank.blkcnt Bank.blksize
  split
  · exact (Nat.mul_lt_mul'' hcnt hsize).trans_le (by norm_num)
  · norm_num

/-- The copy-in of a request without data to the card, and the programming of its main command. -/
theorem run_to_receiving {s : State} (hphase : s.phase = .idle) (hdirect : s.xseq.direct = false) (hraw : s.rawsta = 0#32)
    (hvalid : s.bank0.valid = true) (hdata : s.bank0.hasData = true) (hdir : s.bank0.ctl.getLsbD 4 = true) :
    ∃ w, runAgents (List.replicate 7 .engine) ((s.setBusy true).setStage .copyIn) = .next w ∧
      Receiving s w s.buf := by
  have hnothing : copyIn ((s.setBusy true).setStage .copyIn) = .next ((s.setBusy true).setStage .copyIn) :=
    copyIn_of_nothing_due fun h => by
      have hto := (State.copies_toCard_iff _).mp h.2
      exact absurd (hdir.symm.trans hto.2) (by decide)
  have hcopy : agentStep .engine ((s.setBusy true).setStage .copyIn) =
      .next (((s.setBusy true).setStage .main).setPhase .evtReset) := by
    rw [agentStep_engine_copyIn (s := (s.setBusy true).setStage .copyIn) hphase rfl, stageCopyIn_of_copyIn hnothing]
    exact congrArg (fun stage => Host.Outcome.next (((s.setBusy true).setStage stage).setPhase .evtReset)) (if_pos hvalid)
  have hcs : (((s.setBusy true).setStage .main).setPhase .evtReset).cs = .main := State.cs_of_main hdirect rfl
  have hcur : (((s.setBusy true).setStage .main).setPhase .evtReset).cur = s.bank0 :=
    congrArg (((s.setBusy true).setStage .main).setPhase .evtReset).bank hcs
  obtain ⟨buf, gaps, hprogram, hkept⟩ :=
    run_programming_data (s := ((s.setBusy true).setStage .main).setPhase .evtReset) rfl (hcur ▸ hdata)
  obtain ⟨rfl, rfl⟩ := hkept (hcur ▸ Bank.crc_of_fromCard hdir)
  refine ⟨_, (runAgents_replicate_succ hcopy 6).trans hprogram, ?_⟩
  rw [hcur, hcs, State.evtCleared, hcs, hcur]
  exact {
    phase := rfl
    direct := hdirect
    stage := rfl
    pend := rfl
    ien := ⟨s.ien, congrArg (sendEnables s.ien) hdata⟩
    rawsta := hraw
    bank0 := rfl
    bank1 := rfl
    armed := ⟨rfl, if_pos hdir⟩
    dmalen := by
      have heff : s.bank0.cleared.effLen = s.bank0.len := Bank.effLen_of_not_crc (Bank.crc_of_fromCard hdir)
      change (BitVec.ofNat 32 s.bank0.cleared.effLen).toNat = s.bank0.len
      rw [heff, BitVec.toNat_ofNat, Nat.mod_eq_of_lt s.bank0.len_lt]
    buf := rfl
    hostmem := rfl
    params := rfl
    out := rfl }

/-! ## The moves and the event -/

/-- The channel moves bytes of the transfer, in any order. -/
theorem Receiving.run_moves {s w : State} {buf : Mem} {moves : List (Nat × Byte)} (h : Receiving s w buf)
    (hfits : s.bank0.len ≤ s.params.bounceCap) (hmoves : ∀ m ∈ moves, m.1 < s.bank0.len) :
    ∃ w', runAgents (moves.map fun m => .dma m.1 m.2) w = .next w' ∧
      Receiving s w' (moves.foldl (fun b m => Mem.write b m.1 m.2) buf) := by
  induction moves generalizing w buf with
  | nil => exact ⟨w, rfl, h⟩
  | cons m moves ih =>
    rw [List.forall_mem_cons] at hmoves
    have hstep := agentStep_dma_fromCard (s := w) m.2 h.armed.1 h.armed.2 (h.dmalen ▸ hmoves.1)
      (by rw [h.dmalen, h.params]; exact hfits)
    have hnext : Receiving s { w with buf := Mem.write w.buf m.1 m.2 } (Mem.write buf m.1 m.2) :=
      { h with buf := congrArg (Mem.write · m.1 m.2) h.buf }
    obtain ⟨w', hrun, hw'⟩ := ih hnext hmoves.2
    exact ⟨w', (runAgents_cons_of_next hstep _).trans hrun, hw'⟩

/-- `DATAEND` completes the command. -/
theorem Receiving.run_dataEnd {s w : State} {buf : Mem} (h : Receiving s w buf) :
    runAgents [.bus [.raiseFlags 0x40#32], .isr, .engine] w = .next (w.eventTaken 0x40#32) := by
  obtain ⟨ien, hien⟩ := h.ien
  exact run_flag h.phase h.rawsta rfl (by rw [hien]; exact and_sendEnables ien rfl rfl rfl) (by decide) rfl
    (by rw [h.pend]) ((irqCompletes_iff _ _).mpr (.inr (.inl rfl)))

/-! ## From the event to the end -/

/-- The drain of a quiet interface (R121, R122). -/
theorem run_drain_quiet {s : State} (hphase : s.phase = .drain) (hraw : s.rawsta = 0#32) :
    runAgents (List.replicate 2 .engine) s = .next { s with
      drainfail := false, dmactl := { s.dmactl with en := false }, phase := .cleanup } := by
  have hdrain := (stepDrain_holds s hphase).2.1 (by rw [hraw, BitVec.zero_and]) (by rw [hraw, BitVec.zero_and])
  exact (runAgents_replicate_succ hdrain 1).trans (runAgents_cons_of_next ((stepDrainExit_holds _ rfl).2 rfl) [])

/-- S11 of the main command of EXEC, the enables implemented (R123). -/
theorem agentStep_cleanup_main {s : State} (hphase : s.phase = .cleanup) (hdirect : s.xseq.direct = false)
    (hstage : s.xseq.stage = .main) (hien : s.ien &&& irqBits = s.ien) :
    agentStep .engine s = .next { s with
      ien := s.ien &&& ~~~errMask, pend := { s.pend with valid := false }, phase := .idle,
      xseq := { s.xseq with stage := .copyOut } } := by
  have hreserved : s.ien &&& ~~~0x27F#32 = 0#32 := by
    change s.ien &&& ~~~irqBits = 0#32
    rw [← hien, BitVec.and_assoc, BitVec.and_not_self]
    exact BitVec.and_zero
  rw [(stepCleanup_holds s hphase hreserved).2 hdirect, hstage]
  rfl

/-- The state after the copy-out of a request without a stop command (R133). -/
def State.copiedOut (s : State) : State :=
  { s with
    hostmem := Mem.writeBytes s.hostmem s.bank0.buf.toNat (s.readBuf s.duringCopy 0 s.bank0.len s.buf).1,
    buf := (s.readBuf s.duringCopy 0 s.bank0.len s.buf).2, duringCopy := [], xseq := { s.xseq with stage := .release } }

/-- The copy-out of a request without a stop command while the channel is off, and the release (R133, R135). -/
theorem run_copyOut_release {s : State} (hphase : s.phase = .idle) (hstage : s.xseq.stage = .copyOut)
    (hrequest : ¬invalidRequest s) (hvalid : s.bank0.ctl.getLsbD 0 = true) (hcopies : s.copies .fromCard = true)
    (hstop : s.bank1.valid = false) (hoff : s.dmactl.en = false) :
    ∃ buf hostmem, runAgents (List.replicate 2 .engine) s = .next { s with
        buf := buf, hostmem := hostmem, duringCopy := [], xseq := { s.xseq with stage := .none },
        ctl := { s.ctl with busy := false }, out := .result .ok 0#64 :: .reqDone :: s.out } ∧
      (∀ a, Mem.read buf a = Mem.read s.buf a) ∧
      ∀ a, Mem.read hostmem a =
        if s.bank0.buf.toNat ≤ a ∧ a < s.bank0.buf.toNat + s.bank0.len then Mem.read s.buf (a - s.bank0.buf.toNat)
        else Mem.read s.hostmem a := by
  have hlanded : ∀ moves a v, s.landed moves a v = v := fun moves a v => if_neg fun h => by
    rw [hoff] at h
    exact absurd h.1 (by decide)
  have hcopy : agentStep .engine s = .next s.copiedOut := by
    rw [agentStep_engine_copyOut hphase hstage, stageCopyOut_of_copyOut (copyOut_of_valid hrequest hvalid hcopies) hphase,
      hstop, State.copiedOut, hphase]
    rfl
  refine ⟨s.copiedOut.buf, s.copiedOut.hostmem,
    (runAgents_replicate_succ hcopy 1).trans (runAgents_cons_of_next (stageRelease_holds s.copiedOut hphase rfl) []),
    fun a => (s.read_buf_copyOut _ a).trans (hlanded _ _ _), fun a => ?_⟩
  change Mem.read (Mem.writeBytes s.hostmem s.bank0.buf.toNat (s.readBuf s.duringCopy 0 s.bank0.len s.buf).1) a = _
  split
  next hin =>
    obtain ⟨i, rfl⟩ := Nat.exists_eq_add_of_le hin.1
    rw [s.read_hostmem_copyOut (Nat.lt_of_add_lt_add_left hin.2), hlanded, Nat.add_sub_cancel_left]
  next hout =>
    refine Mem.read_writeBytes_outside _ _ _ _ ?_
    rw [s.readBuf_length]
    omega

/-- A response is no part of the descriptor. -/
theorem Bank.takeResponse_descriptor (b : Bank) (w0 w1 w2 w3 : Word) :
    (b.takeResponse w0 w1 w2 w3).descriptor = b.descriptor := by
  unfold Bank.takeResponse
  split <;> rfl

/-- The main command of an EXEC that began in `s` has succeeded, `buf` in `BUF`. -/
structure Received (s u : State) (buf : Mem) : Prop where
  phase : u.phase = .idle
  stage : u.xseq.stage = .copyOut
  request : SameRequest s u
  err : u.bank0.err = ⟨.success, .success⟩
  off : u.dmactl.en = false
  buf : u.buf = buf
  hostmem : u.hostmem = s.hostmem
  out : u.out = s.out

/-- The state after S8 of the main command of EXEC, its bank `b` (R119, R120). -/
def State.classified (w : State) (b : Bank) : State :=
  { w.eventTaken 0x40#32 with
    bank0 := { b.takeResponse w.hwresp0 w.hwresp1 w.hwresp2 w.hwresp3 with err := ⟨.success, .success⟩ },
    spin := w.params.drainSpinMax, phase := .drain }

/-- S8 to S11 of the main command. -/
theorem Receiving.run_to_received {s w : State} {buf : Mem} (h : Receiving s w buf) (hdata : s.bank0.hasData = true) :
    ∃ u, runAgents (List.replicate 4 .engine) (w.eventTaken 0x40#32) = .next u ∧ Received s u buf := by
  have hst : 0x40#32 &&& errMask = 0#32 := by decide
  have hcs : w.cs = .main := State.cs_of_main h.direct h.stage
  obtain ⟨ien, hien⟩ := h.ien
  have himplemented : w.ien &&& irqBits = w.ien := by rw [hien, sendEnables_implemented]
  have hclassify : agentStep .engine (w.eventTaken 0x40#32) = .next (w.classified s.bank0.cleared) :=
    agentStep_classify (s := w.eventTaken 0x40#32) rfl hcs h.bank0 hdata hst rfl
  have hdrain := run_drain_quiet (s := w.classified s.bank0.cleared) rfl rfl
  have hcleanup := agentStep_cleanup_main (s := { w.classified s.bank0.cleared with
    drainfail := false, dmactl := { w.dmactl with en := false }, phase := .cleanup }) rfl h.direct h.stage himplemented
  refine ⟨_, (runAgents_replicate_succ hclassify 3).trans ((runAgents_append (fs := [.engine]) hdrain).trans
    (runAgents_cons_of_next hcleanup [])), ?_⟩
  exact {
    phase := rfl
    stage := rfl
    request := ⟨h.params, fun c => by
      cases c
      · exact s.bank0.cleared.takeResponse_descriptor ..
      · exact congrArg Bank.descriptor h.bank1⟩
    err := rfl
    off := rfl
    buf := h.buf
    hostmem := h.hostmem
    out := h.out }

/-- Settles O42: acceptance, the run to the wait, the moves, the event, and the run to the end. -/
theorem execDeliversCardBytes : Obligations.ExecDeliversCardBytes := by
  intro s moves hphase hdirect hraw hrequest hvalid hdata hdir hstop hmoves
  have hlen : s.bank0.len = s.bank0.blkcnt * s.bank0.blksize := Bank.len_of_data hdata
  have hfits : s.bank0.len ≤ s.params.bounceCap := by
    have hin := (State.data_fits_of_valid hrequest hvalid hdata).2
    simpa [State.inBuf] using hin
  rw [← hlen] at hmoves ⊢
  obtain ⟨w, hwait, hw⟩ := run_to_receiving hphase hdirect hraw hvalid hdata hdir
  obtain ⟨w', hmove, hw'⟩ := hw.run_moves hfits hmoves
  obtain ⟨u, hfirst, hu⟩ := hw'.run_to_received hdata
  have hctl : u.bank0.ctl = s.bank0.ctl := congrArg Prod.fst (hu.request.descriptor .main)
  have hctl1 : u.bank1.ctl = s.bank1.ctl := congrArg Prod.fst (hu.request.descriptor .stop)
  obtain ⟨-, -, -, -, hubuf, hulen, -⟩ := Bank.fields_of_descriptor (b := s.bank0) (b' := u.bank0)
    (hu.request.descriptor .main)
  obtain ⟨buf, hostmem, hlast, hbuf, hhost⟩ := run_copyOut_release hu.phase hu.stage
    (by rw [← State.requestInvalid_iff, hu.request.requestInvalid, State.requestInvalid_iff]; exact hrequest)
    (hctl ▸ hvalid) (u.copies_fromCard_iff.mpr (by rw [hctl]; exact ⟨hdata, hdir⟩)) (by rw [Bank.valid_eq, hctl1, hstop])
    hu.off
  have hrun := (runAgents_append (fs := List.replicate 6 .engine) hw'.run_dataEnd).trans
    ((runAgents_append (fs := List.replicate 2 .engine) hfirst).trans hlast)
  have hall := (runAgents_append hwait).trans ((runAgents_append hmove).trans hrun)
  simp only [List.append_assoc]
  refine ⟨_, _, (execAcceptance s).1 hrequest, hall, ?_⟩
  exact ⟨congrArg (.result .ok 0#64 :: .reqDone :: ·) hu.out, rfl, hu.phase, rfl, hu.err, hu.off,
    fun a => (hbuf a).trans (by rw [hu.buf]), fun a => by rw [hhost, hubuf, hulen, hu.hostmem, hbuf]⟩

end Sys2Proof.Machine
end
